-- ==== Sys2Proof/Word.lean ====
section
/-! DEFINITION. The word types. An `XLEN`-bit value (00_scope.md R4, R8) is held zero-extended in a
64-bit word, whatever `XLEN` is (log 3). -/

namespace Sys2Proof

/-- Holds an `XLEN`-bit value, zero-extended (log 3). -/
abbrev Word := BitVec 64

/-- One byte: addresses count bytes (00_scope.md R7). -/
abbrev Byte := BitVec 8

/-- The two widths the source says exist (00_scope.md R4, 92_eei_decisions.md D1). -/
inductive Xlen where
  | x32
  | x64
deriving DecidableEq, Repr

/-- `XLEN` as a number of bits. -/
def Xlen.bits : Xlen → Nat
  | .x32 => 32
  | .x64 => 64

end Sys2Proof
end

