-- ==== Sys2Proof/Config.lean ====
section
/-! DEFINITION. What an implementation fixes (00_scope.md R4): the parameters that are plain data, as a record that
State carries and no step changes (log 2), and the ones that are functions or free values, as opaque constants
(logs 11, 16, 17). -/

namespace Sys2Proof

/-- The exception kinds (60_exceptions.md R150). -/
inductive ExcKind where
  | priv
  | fetch
  | bus
  | regprot
  | overlord
  | syscall
  | timer
  | hw
  | cp
  /-- `XK_OTHER`: an error of the wider instruction set, each with its own number (R159). -/
  | other (cause : Nat)
deriving DecidableEq, Repr

/-- Byte orders (20_memory.md R70, R71). -/
inductive ByteOrder where
  | little
  | big
deriving DecidableEq, Repr

/-- `ASYNC_MODE` (60_exceptions.md R166, 92_eei_decisions.md D15). -/
inductive AsyncMode where
  | edge
  | level
deriving DecidableEq, Repr

/-- The direction of a control-register access (40_ctrl_access.md R102). -/
inductive Dir where
  | read
  | write
deriving DecidableEq, Repr

/-- A range of physical addresses, of memory or of the I/O bus. -/
structure Region where
  base : Nat
  size : Nat
deriving DecidableEq, Repr

/-- The parameters of 00_scope.md R4 that are plain data, and those of the wider machine and its platform (I33, I36, I41). -/
structure Params where
  /-- `XLEN` (D1). -/
  xlen : Xlen
  /-- `NUM_GPR`, 16 in architecture version 1 (10_state.md R33, I16; log 32). -/
  numGpr : Nat
  /-- `MMU_SLOTS`, 8 in architecture version 1 (20_memory.md R69, I15; log 29). -/
  mmuSlots : Nat
  /-- `CPUID_BYTE3` (D3). -/
  cpuidByte3 : BitVec 8
  /-- `SIGNATURE`, readable when `XLEN` = 64 (D4). -/
  signature : BitVec 32
  /-- `USER_CTRL_SAFE`: what user mode may do directly (D37). -/
  userCtrlSafe : List (Nat × Dir)
  /-- `ASYNC_MODE` (D15). -/
  asyncMode : AsyncMode
  /-- `GPIOA_WIDTH` (D25). -/
  gpioaWidth : Nat
  /-- `PROC_WIDTH` (D26). -/
  procWidth : Nat
  /-- `INSTR_BASE_ORDER` (D35). -/
  instrBaseOrder : ByteOrder
  /-- `DATA_ORDER` (D41). -/
  dataOrder : ByteOrder
  /-- `RESET_PC` (70_reset_and_hazards.md R201). -/
  resetPc : Word
  /-- The physical memory the bus does not answer (60_exceptions.md R153, R154, I41; log 10). -/
  busHoles : List Region
  /-- The I/O addresses the I/O bus does not answer (60_exceptions.md R154, I41; log 10). -/
  ioHoles : List Region
  /-- What a `pc` that is no multiple of 4 does: `none`, the 4 bytes there are fetched; `some c`, the wider
  instruction set raises its own exception `c` (20_memory.md R72, I33; log 8). -/
  misalignedPc : Option Nat
  /-- What a data or I/O access at an address that is no multiple of its size does: `none`, it is made at that address;
  `some c`, the wider instruction set raises its own exception `c` (20_memory.md R72, I33; log 8). -/
  misalignedData : Option Nat
  /-- What a word the processor does not implement does: `none`, no meaning; `some c`, it raises exception `c`
  (60_exceptions.md R159, I36; log 9). -/
  unimplemented : Option Nat
deriving DecidableEq, Repr

/-- The parameters of the machine behind `State.reset`: the spec's defaults where it has one
(95_test_vectors.md's opening, D3, D15, D37), DESIGN CHOICE for the rest (log 2). -/
def Params.default : Params where
  xlen := .x32
  numGpr := 16
  mmuSlots := 8
  cpuidByte3 := 0
  signature := 0
  userCtrlSafe := []
  asyncMode := .edge
  gpioaWidth := 32
  procWidth := 32
  instrBaseOrder := .little
  dataOrder := .little
  resetPc := 0
  busHoles := []
  ioHoles := []
  misalignedPc := none
  misalignedData := none
  unimplemented := none

/-- What the environment presents to one step (10_state.md R36). -/
structure Inputs where
  /-- The levels of the GPIOA pins. -/
  gpioaPins : Word
  /-- The levels of the PROCESSORS pins. -/
  procPins : Word
  /-- The external-hardware exception request (60_exceptions.md R162). -/
  hwReq : Bool
  /-- The other-processor exception request (60_exceptions.md R163). -/
  cpReq : Bool
deriving DecidableEq, Repr, Inhabited

/-- `EXC_CODE`, under no law: not even injective (60_exceptions.md R151, D6; log 16). -/
opaque Config.excCode : ExcKind → Word

/-- `OVL_INDEX`: the combination index of an instruction word (30_encoding.md R81, D32; log 17). -/
opaque Config.ovlIndex : BitVec 32 → BitVec 8

/-- The `n`-th sample of the environment, under no law (00_scope.md R8 `draw`; log 11). -/
opaque Config.drawInputs : Nat → Inputs

end Sys2Proof
end

