-- ==== Sys2Proof/Syntax.lean ====
section
/-! DEFINITION. The instructions: one constructor per row of spec/opcode_table.json (30_encoding.md R84). `rd` and `rs` are
general register numbers (R82), `cn` a control-register number (R86). -/

namespace Sys2Proof

/-- The three abstract operations of 30_encoding.md R84 and their forms for one control-register number. -/
inductive Instr where
  /-- `CTRLRD` (R100). -/
  | ctrlrd (rd cn : Nat)
  /-- `CTRLWR` (R101). -/
  | ctrlwr (cn rs : Nat)
  /-- `MODESWITCH` (R140). -/
  | modeswitch
  /-- `CTRLRD.CTRL_CPUID` (R104). -/
  | ctrlrdCpuid (rd : Nat)
  /-- `CTRLWR.CTRL_CPUID` (R105). -/
  | ctrlwrCpuid (rs : Nat)
  /-- `CTRLRD.CTRL_EXCN` (R106). -/
  | ctrlrdExcn (rd : Nat)
  /-- `CTRLWR.CTRL_EXCN` (R107). -/
  | ctrlwrExcn (rs : Nat)
  /-- `CTRLRD.CTRL_FLAGS` (R108). -/
  | ctrlrdFlags (rd : Nat)
  /-- `CTRLWR.CTRL_FLAGS` (R109). -/
  | ctrlwrFlags (rs : Nat)
  /-- `CTRLRD.CTRL_MIRRORFLAGS` (R110). -/
  | ctrlrdMirrorflags (rd : Nat)
  /-- `CTRLWR.CTRL_MIRRORFLAGS` (R111). -/
  | ctrlwrMirrorflags (rs : Nat)
  /-- `CTRLRD.CTRL_XADDR` (R112). -/
  | ctrlrdXaddr (rd : Nat)
  /-- `CTRLWR.CTRL_XADDR` (R113). -/
  | ctrlwrXaddr (rs : Nat)
  /-- `CTRLRD.CTRL_MIRRORXADDR` (R114). -/
  | ctrlrdMirrorxaddr (rd : Nat)
  /-- `CTRLWR.CTRL_MIRRORXADDR` (R115). -/
  | ctrlwrMirrorxaddr (rs : Nat)
  /-- `CTRLRD.CTRL_TIMER0` (R116). -/
  | ctrlrdTimer0 (rd : Nat)
  /-- `CTRLWR.CTRL_TIMER0` (R117). -/
  | ctrlwrTimer0 (rs : Nat)
  /-- `CTRLRD.CTRL_TIMER1` (R118). -/
  | ctrlrdTimer1 (rd : Nat)
  /-- `CTRLWR.CTRL_TIMER1` (R118). -/
  | ctrlwrTimer1 (rs : Nat)
  /-- `CTRLRD.CTRL_SYSTEM0` (R119). -/
  | ctrlrdSystem0 (rd : Nat)
  /-- `CTRLWR.CTRL_SYSTEM0` (R120). -/
  | ctrlwrSystem0 (rs : Nat)
  /-- `CTRLRD.CTRL_SYSTEM1` (R119). -/
  | ctrlrdSystem1 (rd : Nat)
  /-- `CTRLWR.CTRL_SYSTEM1` (R120). -/
  | ctrlwrSystem1 (rs : Nat)
  /-- `CTRLRD.CTRL_GPIOA_PINS` (R121). -/
  | ctrlrdGpioaPins (rd : Nat)
  /-- `CTRLWR.CTRL_GPIOA_PINS` (R122). -/
  | ctrlwrGpioaPins (rs : Nat)
  /-- `CTRLRD.CTRL_PROCESSORS` (R123). -/
  | ctrlrdProcessors (rd : Nat)
  /-- `CTRLWR.CTRL_PROCESSORS` (R124). -/
  | ctrlwrProcessors (rs : Nat)
  /-- `CTRLRD.CTRL_MMU_X0` (R125). -/
  | ctrlrdMmuX0 (rd : Nat)
  /-- `CTRLWR.CTRL_MMU_X0` (R126). -/
  | ctrlwrMmuX0 (rs : Nat)
  /-- `CTRLRD.CTRL_MMU_X1` (R125). -/
  | ctrlrdMmuX1 (rd : Nat)
  /-- `CTRLWR.CTRL_MMU_X1` (R126). -/
  | ctrlwrMmuX1 (rs : Nat)
  /-- `CTRLRD.CTRL_MMU_X2` (R125). -/
  | ctrlrdMmuX2 (rd : Nat)
  /-- `CTRLWR.CTRL_MMU_X2` (R126). -/
  | ctrlwrMmuX2 (rs : Nat)
  /-- `CTRLRD.CTRL_MMU_X3` (R125). -/
  | ctrlrdMmuX3 (rd : Nat)
  /-- `CTRLWR.CTRL_MMU_X3` (R126). -/
  | ctrlwrMmuX3 (rs : Nat)
  /-- `CTRLRD.CTRL_MMU_X4` (R125). -/
  | ctrlrdMmuX4 (rd : Nat)
  /-- `CTRLWR.CTRL_MMU_X4` (R126). -/
  | ctrlwrMmuX4 (rs : Nat)
  /-- `CTRLRD.CTRL_MMU_X5` (R125). -/
  | ctrlrdMmuX5 (rd : Nat)
  /-- `CTRLWR.CTRL_MMU_X5` (R126). -/
  | ctrlwrMmuX5 (rs : Nat)
  /-- `CTRLRD.CTRL_MMU_X6` (R125). -/
  | ctrlrdMmuX6 (rd : Nat)
  /-- `CTRLWR.CTRL_MMU_X6` (R126). -/
  | ctrlwrMmuX6 (rs : Nat)
  /-- `CTRLRD.CTRL_MMU_X7` (R125). -/
  | ctrlrdMmuX7 (rd : Nat)
  /-- `CTRLWR.CTRL_MMU_X7` (R126). -/
  | ctrlwrMmuX7 (rs : Nat)
  /-- `CTRLRD.CTRL_MMU_Y0` (R127). -/
  | ctrlrdMmuY0 (rd : Nat)
  /-- `CTRLWR.CTRL_MMU_Y0` (R128). -/
  | ctrlwrMmuY0 (rs : Nat)
  /-- `CTRLRD.CTRL_MMU_Y1` (R127). -/
  | ctrlrdMmuY1 (rd : Nat)
  /-- `CTRLWR.CTRL_MMU_Y1` (R128). -/
  | ctrlwrMmuY1 (rs : Nat)
  /-- `CTRLRD.CTRL_MMU_Y2` (R127). -/
  | ctrlrdMmuY2 (rd : Nat)
  /-- `CTRLWR.CTRL_MMU_Y2` (R128). -/
  | ctrlwrMmuY2 (rs : Nat)
  /-- `CTRLRD.CTRL_MMU_Y3` (R127). -/
  | ctrlrdMmuY3 (rd : Nat)
  /-- `CTRLWR.CTRL_MMU_Y3` (R128). -/
  | ctrlwrMmuY3 (rs : Nat)
  /-- `CTRLRD.CTRL_MMU_Y4` (R127). -/
  | ctrlrdMmuY4 (rd : Nat)
  /-- `CTRLWR.CTRL_MMU_Y4` (R128). -/
  | ctrlwrMmuY4 (rs : Nat)
  /-- `CTRLRD.CTRL_MMU_Y5` (R127). -/
  | ctrlrdMmuY5 (rd : Nat)
  /-- `CTRLWR.CTRL_MMU_Y5` (R128). -/
  | ctrlwrMmuY5 (rs : Nat)
  /-- `CTRLRD.CTRL_MMU_Y6` (R127). -/
  | ctrlrdMmuY6 (rd : Nat)
  /-- `CTRLWR.CTRL_MMU_Y6` (R128). -/
  | ctrlwrMmuY6 (rs : Nat)
  /-- `CTRLRD.CTRL_MMU_Y7` (R127). -/
  | ctrlrdMmuY7 (rd : Nat)
  /-- `CTRLWR.CTRL_MMU_Y7` (R128). -/
  | ctrlwrMmuY7 (rs : Nat)
  /-- `CTRLRD.CTRL_OVERLORD_0` (R129). -/
  | ctrlrdOverlord0 (rd : Nat)
  /-- `CTRLWR.CTRL_OVERLORD_0` (R130). -/
  | ctrlwrOverlord0 (rs : Nat)
  /-- `CTRLRD.CTRL_OVERLORD_1` (R129). -/
  | ctrlrdOverlord1 (rd : Nat)
  /-- `CTRLWR.CTRL_OVERLORD_1` (R130). -/
  | ctrlwrOverlord1 (rs : Nat)
  /-- `CTRLRD.CTRL_OVERLORD_2` (R129). -/
  | ctrlrdOverlord2 (rd : Nat)
  /-- `CTRLWR.CTRL_OVERLORD_2` (R130). -/
  | ctrlwrOverlord2 (rs : Nat)
  /-- `CTRLRD.CTRL_OVERLORD_3` (R129). -/
  | ctrlrdOverlord3 (rd : Nat)
  /-- `CTRLWR.CTRL_OVERLORD_3` (R130). -/
  | ctrlwrOverlord3 (rs : Nat)
  /-- `CTRLRD.CTRL_OVERLORD_4` (R129). -/
  | ctrlrdOverlord4 (rd : Nat)
  /-- `CTRLWR.CTRL_OVERLORD_4` (R130). -/
  | ctrlwrOverlord4 (rs : Nat)
  /-- `CTRLRD.CTRL_OVERLORD_5` (R129). -/
  | ctrlrdOverlord5 (rd : Nat)
  /-- `CTRLWR.CTRL_OVERLORD_5` (R130). -/
  | ctrlwrOverlord5 (rs : Nat)
  /-- `CTRLRD.CTRL_OVERLORD_6` (R129). -/
  | ctrlrdOverlord6 (rd : Nat)
  /-- `CTRLWR.CTRL_OVERLORD_6` (R130). -/
  | ctrlwrOverlord6 (rs : Nat)
  /-- `CTRLRD.CTRL_OVERLORD_7` (R129). -/
  | ctrlrdOverlord7 (rd : Nat)
  /-- `CTRLWR.CTRL_OVERLORD_7` (R130). -/
  | ctrlwrOverlord7 (rs : Nat)
  /-- `CTRLRD.<unassigned>` (R131). -/
  | ctrlrdUnassigned (rd cn : Nat)
  /-- `CTRLWR.<unassigned>` (R131). -/
  | ctrlwrUnassigned (cn rs : Nat)
deriving DecidableEq, Repr

end Sys2Proof
end

