-- ==== Sys2Proof/WellFormed.lean ====
section
/-! DEFINITION. Well-formed instructions: the operands fit the fields of the model's encoding (log 1), and the
`<unassigned>` forms name unassigned control-register numbers. -/

namespace Sys2Proof

/-- A general register number the encoding can name: the field is as wide as `regprot`, so that it can name registers
that do not exist (30_encoding.md R82). -/
abbrev RegField (r : Nat) : Prop := r < 256

/-- A control-register number the encoding can name (30_encoding.md R86: at least 6 bits). -/
abbrev CnField (cn : Nat) : Prop := cn < 65536

/-- The numbers of the rows `CTRLRD.<unassigned>` and `CTRLWR.<unassigned>` (40_ctrl_access.md R131; `CTRL_TIMER1`, number 7, has rows
of its own). -/
abbrev CtrlUnassigned (cn : Nat) : Prop :=
  (0x0B ≤ cn ∧ cn ≤ 0x0E) ∨ (0x18 ≤ cn ∧ cn ≤ 0x1F) ∨ (0x28 ≤ cn ∧ cn ≤ 0x2F) ∨ 0x38 ≤ cn

/-- Every operand is at a value its field admits. -/
abbrev Instr.WellFormed (i : Instr) : Prop :=
  match i with
  | .ctrlrd rd cn => RegField rd ∧ CnField cn
  | .ctrlwr cn rs => RegField rs ∧ CnField cn
  | .modeswitch => True
  | .ctrlrdCpuid rd => RegField rd
  | .ctrlwrCpuid rs => RegField rs
  | .ctrlrdExcn rd => RegField rd
  | .ctrlwrExcn rs => RegField rs
  | .ctrlrdFlags rd => RegField rd
  | .ctrlwrFlags rs => RegField rs
  | .ctrlrdMirrorflags rd => RegField rd
  | .ctrlwrMirrorflags rs => RegField rs
  | .ctrlrdXaddr rd => RegField rd
  | .ctrlwrXaddr rs => RegField rs
  | .ctrlrdMirrorxaddr rd => RegField rd
  | .ctrlwrMirrorxaddr rs => RegField rs
  | .ctrlrdTimer0 rd => RegField rd
  | .ctrlwrTimer0 rs => RegField rs
  | .ctrlrdTimer1 rd => RegField rd
  | .ctrlwrTimer1 rs => RegField rs
  | .ctrlrdSystem0 rd => RegField rd
  | .ctrlwrSystem0 rs => RegField rs
  | .ctrlrdSystem1 rd => RegField rd
  | .ctrlwrSystem1 rs => RegField rs
  | .ctrlrdGpioaPins rd => RegField rd
  | .ctrlwrGpioaPins rs => RegField rs
  | .ctrlrdProcessors rd => RegField rd
  | .ctrlwrProcessors rs => RegField rs
  | .ctrlrdMmuX0 rd => RegField rd
  | .ctrlwrMmuX0 rs => RegField rs
  | .ctrlrdMmuX1 rd => RegField rd
  | .ctrlwrMmuX1 rs => RegField rs
  | .ctrlrdMmuX2 rd => RegField rd
  | .ctrlwrMmuX2 rs => RegField rs
  | .ctrlrdMmuX3 rd => RegField rd
  | .ctrlwrMmuX3 rs => RegField rs
  | .ctrlrdMmuX4 rd => RegField rd
  | .ctrlwrMmuX4 rs => RegField rs
  | .ctrlrdMmuX5 rd => RegField rd
  | .ctrlwrMmuX5 rs => RegField rs
  | .ctrlrdMmuX6 rd => RegField rd
  | .ctrlwrMmuX6 rs => RegField rs
  | .ctrlrdMmuX7 rd => RegField rd
  | .ctrlwrMmuX7 rs => RegField rs
  | .ctrlrdMmuY0 rd => RegField rd
  | .ctrlwrMmuY0 rs => RegField rs
  | .ctrlrdMmuY1 rd => RegField rd
  | .ctrlwrMmuY1 rs => RegField rs
  | .ctrlrdMmuY2 rd => RegField rd
  | .ctrlwrMmuY2 rs => RegField rs
  | .ctrlrdMmuY3 rd => RegField rd
  | .ctrlwrMmuY3 rs => RegField rs
  | .ctrlrdMmuY4 rd => RegField rd
  | .ctrlwrMmuY4 rs => RegField rs
  | .ctrlrdMmuY5 rd => RegField rd
  | .ctrlwrMmuY5 rs => RegField rs
  | .ctrlrdMmuY6 rd => RegField rd
  | .ctrlwrMmuY6 rs => RegField rs
  | .ctrlrdMmuY7 rd => RegField rd
  | .ctrlwrMmuY7 rs => RegField rs
  | .ctrlrdOverlord0 rd => RegField rd
  | .ctrlwrOverlord0 rs => RegField rs
  | .ctrlrdOverlord1 rd => RegField rd
  | .ctrlwrOverlord1 rs => RegField rs
  | .ctrlrdOverlord2 rd => RegField rd
  | .ctrlwrOverlord2 rs => RegField rs
  | .ctrlrdOverlord3 rd => RegField rd
  | .ctrlwrOverlord3 rs => RegField rs
  | .ctrlrdOverlord4 rd => RegField rd
  | .ctrlwrOverlord4 rs => RegField rs
  | .ctrlrdOverlord5 rd => RegField rd
  | .ctrlwrOverlord5 rs => RegField rs
  | .ctrlrdOverlord6 rd => RegField rd
  | .ctrlwrOverlord6 rs => RegField rs
  | .ctrlrdOverlord7 rd => RegField rd
  | .ctrlwrOverlord7 rs => RegField rs
  | .ctrlrdUnassigned rd cn => RegField rd ∧ CnField cn ∧ CtrlUnassigned cn
  | .ctrlwrUnassigned cn rs => RegField rs ∧ CnField cn ∧ CtrlUnassigned cn

end Sys2Proof
end

