-- ==== Sys2Proof/Decode.lean ====
section
/-! DEFINITION. Instruction words: byte order, decoder, encoder. The source fixes the length (4 bytes, 30_encoding.md R80), the
number of opcode combinations (256, R81) and the control-register numbers (R86), and no bit position or opcode value: the
layout below is the model's own (DESIGN CHOICE, unsafe, log 1). A word is opcode [31:24] (the 8-bit combination index of major
and minor opcode), register number [23:16], control-register number [15:0]. -/

namespace Sys2Proof

/-- Why bytes are no instruction of the model. -/
inductive DecodeError where
  /-- Fewer or more than the 4 bytes of an instruction (30_encoding.md R80). -/
  | wrongLength
  /-- An opcode combination that the model gives no instruction. -/
  | unknownOpcode (opcode : Nat)
  /-- `MODESWITCH` has no operands (41_mode_switch.md R140), and its operand fields are not zero. -/
  | operandBitsSet
deriving DecidableEq, Repr

/-- The four bytes of an instruction, the one at the lowest address first, as a word (20_memory.md R70). -/
def assembleWord (o : ByteOrder) (b0 b1 b2 b3 : Byte) : BitVec 32 :=
  match o with
  | .little => b3 ++ b2 ++ b1 ++ b0
  | .big => b0 ++ b1 ++ b2 ++ b3

/-- The bytes of a word in the order they are stored, the one at the lowest address first (20_memory.md R70). -/
def splitWord (o : ByteOrder) (w : BitVec 32) : List Byte :=
  match o with
  | .little => [w.extractLsb' 0 8, w.extractLsb' 8 8, w.extractLsb' 16 8, w.extractLsb' 24 8]
  | .big => [w.extractLsb' 24 8, w.extractLsb' 16 8, w.extractLsb' 8 8, w.extractLsb' 0 8]

/-- `w[7:0] ++ w[15:8] ++ w[23:16] ++ w[31:24]` (20_memory.md R70). -/
def byteReverse (w : BitVec 32) : BitVec 32 :=
  w.extractLsb' 0 8 ++ w.extractLsb' 8 8 ++ w.extractLsb' 16 8 ++ w.extractLsb' 24 8

/-- The fields of an instruction word (log 1). -/
structure Fields where
  opcode : Nat
  reg : Nat
  cn : Nat
deriving DecidableEq, Repr

/-- The field opcode values (log 1). -/
def opCtrlrd : Nat := 0x01
/-- `CTRLWR cn, rs`. -/
def opCtrlwr : Nat := 0x02
/-- `MODESWITCH`. -/
def opModeswitch : Nat := 0x03
/-- `CTRLRD.<register>`: the number selects the row of the table. -/
def opCtrlrdForm : Nat := 0x11
/-- `CTRLWR.<register>`: the number selects the row of the table. -/
def opCtrlwrForm : Nat := 0x12

/-- A word's fields. -/
def wordFields (w : BitVec 32) : Fields where
  opcode := (w.extractLsb' 24 8).toNat
  reg := (w.extractLsb' 16 8).toNat
  cn := (w.extractLsb' 0 16).toNat

/-- The word with these fields. -/
def fieldsWord (f : Fields) : BitVec 32 :=
  BitVec.ofNat 8 f.opcode ++ BitVec.ofNat 8 f.reg ++ BitVec.ofNat 16 f.cn

/-- The `CTRLRD.<register>` rows by control-register number (30_encoding.md R86). -/
def readForms : List (Nat × (Nat → Instr)) :=
  [ (0x00, .ctrlrdCpuid), (0x01, .ctrlrdExcn), (0x02, .ctrlrdFlags), (0x03, .ctrlrdMirrorflags),
    (0x04, .ctrlrdXaddr), (0x05, .ctrlrdMirrorxaddr), (0x06, .ctrlrdTimer0), (0x07, .ctrlrdTimer1),
    (0x08, .ctrlrdSystem0), (0x09, .ctrlrdSystem1), (0x0A, .ctrlrdGpioaPins), (0x0F, .ctrlrdProcessors),
    (0x10, .ctrlrdMmuX0), (0x11, .ctrlrdMmuX1), (0x12, .ctrlrdMmuX2), (0x13, .ctrlrdMmuX3),
    (0x14, .ctrlrdMmuX4), (0x15, .ctrlrdMmuX5), (0x16, .ctrlrdMmuX6), (0x17, .ctrlrdMmuX7),
    (0x20, .ctrlrdMmuY0), (0x21, .ctrlrdMmuY1), (0x22, .ctrlrdMmuY2), (0x23, .ctrlrdMmuY3),
    (0x24, .ctrlrdMmuY4), (0x25, .ctrlrdMmuY5), (0x26, .ctrlrdMmuY6), (0x27, .ctrlrdMmuY7),
    (0x30, .ctrlrdOverlord0), (0x31, .ctrlrdOverlord1), (0x32, .ctrlrdOverlord2), (0x33, .ctrlrdOverlord3),
    (0x34, .ctrlrdOverlord4), (0x35, .ctrlrdOverlord5), (0x36, .ctrlrdOverlord6), (0x37, .ctrlrdOverlord7) ]

/-- The `CTRLWR.<register>` rows by control-register number (30_encoding.md R86). -/
def writeForms : List (Nat × (Nat → Instr)) :=
  [ (0x00, .ctrlwrCpuid), (0x01, .ctrlwrExcn), (0x02, .ctrlwrFlags), (0x03, .ctrlwrMirrorflags),
    (0x04, .ctrlwrXaddr), (0x05, .ctrlwrMirrorxaddr), (0x06, .ctrlwrTimer0), (0x07, .ctrlwrTimer1),
    (0x08, .ctrlwrSystem0), (0x09, .ctrlwrSystem1), (0x0A, .ctrlwrGpioaPins), (0x0F, .ctrlwrProcessors),
    (0x10, .ctrlwrMmuX0), (0x11, .ctrlwrMmuX1), (0x12, .ctrlwrMmuX2), (0x13, .ctrlwrMmuX3),
    (0x14, .ctrlwrMmuX4), (0x15, .ctrlwrMmuX5), (0x16, .ctrlwrMmuX6), (0x17, .ctrlwrMmuX7),
    (0x20, .ctrlwrMmuY0), (0x21, .ctrlwrMmuY1), (0x22, .ctrlwrMmuY2), (0x23, .ctrlwrMmuY3),
    (0x24, .ctrlwrMmuY4), (0x25, .ctrlwrMmuY5), (0x26, .ctrlwrMmuY6), (0x27, .ctrlwrMmuY7),
    (0x30, .ctrlwrOverlord0), (0x31, .ctrlwrOverlord1), (0x32, .ctrlwrOverlord2), (0x33, .ctrlwrOverlord3),
    (0x34, .ctrlwrOverlord4), (0x35, .ctrlwrOverlord5), (0x36, .ctrlwrOverlord6), (0x37, .ctrlwrOverlord7) ]

/-- The instruction with these fields. -/
def decodeFields (f : Fields) : Except DecodeError Instr :=
  if f.opcode = opCtrlrd then .ok (.ctrlrd f.reg f.cn)
  else if f.opcode = opCtrlwr then .ok (.ctrlwr f.cn f.reg)
  else if f.opcode = opModeswitch then
    if f.reg = 0 ∧ f.cn = 0 then .ok .modeswitch else .error .operandBitsSet
  else if f.opcode = opCtrlrdForm then
    match readForms.lookup f.cn with
    | some form => .ok (form f.reg)
    | none => .ok (.ctrlrdUnassigned f.reg f.cn)
  else if f.opcode = opCtrlwrForm then
    match writeForms.lookup f.cn with
    | some form => .ok (form f.reg)
    | none => .ok (.ctrlwrUnassigned f.cn f.reg)
  else .error (.unknownOpcode f.opcode)

/-- The instruction a word stands for, after the byte order is settled (30_encoding.md R89). -/
def decodeWord (w : BitVec 32) : Except DecodeError Instr :=
  decodeFields (wordFields w)

/-- The instruction that bytes stored in the given order stand for. -/
def decodeBytes (o : ByteOrder) (bytes : List Byte) : Except DecodeError Instr :=
  match bytes with
  | [b0, b1, b2, b3] => decodeWord (assembleWord o b0 b1 b2 b3)
  | _ => .error .wrongLength

/-- An instruction's fields. -/
def instrFields (i : Instr) : Fields :=
  match i with
  | .ctrlrd rd cn => ⟨opCtrlrd, rd, cn⟩
  | .ctrlwr cn rs => ⟨opCtrlwr, rs, cn⟩
  | .modeswitch => ⟨opModeswitch, 0, 0⟩
  | .ctrlrdCpuid rd => ⟨opCtrlrdForm, rd, 0x00⟩
  | .ctrlwrCpuid rs => ⟨opCtrlwrForm, rs, 0x00⟩
  | .ctrlrdExcn rd => ⟨opCtrlrdForm, rd, 0x01⟩
  | .ctrlwrExcn rs => ⟨opCtrlwrForm, rs, 0x01⟩
  | .ctrlrdFlags rd => ⟨opCtrlrdForm, rd, 0x02⟩
  | .ctrlwrFlags rs => ⟨opCtrlwrForm, rs, 0x02⟩
  | .ctrlrdMirrorflags rd => ⟨opCtrlrdForm, rd, 0x03⟩
  | .ctrlwrMirrorflags rs => ⟨opCtrlwrForm, rs, 0x03⟩
  | .ctrlrdXaddr rd => ⟨opCtrlrdForm, rd, 0x04⟩
  | .ctrlwrXaddr rs => ⟨opCtrlwrForm, rs, 0x04⟩
  | .ctrlrdMirrorxaddr rd => ⟨opCtrlrdForm, rd, 0x05⟩
  | .ctrlwrMirrorxaddr rs => ⟨opCtrlwrForm, rs, 0x05⟩
  | .ctrlrdTimer0 rd => ⟨opCtrlrdForm, rd, 0x06⟩
  | .ctrlwrTimer0 rs => ⟨opCtrlwrForm, rs, 0x06⟩
  | .ctrlrdTimer1 rd => ⟨opCtrlrdForm, rd, 0x07⟩
  | .ctrlwrTimer1 rs => ⟨opCtrlwrForm, rs, 0x07⟩
  | .ctrlrdSystem0 rd => ⟨opCtrlrdForm, rd, 0x08⟩
  | .ctrlwrSystem0 rs => ⟨opCtrlwrForm, rs, 0x08⟩
  | .ctrlrdSystem1 rd => ⟨opCtrlrdForm, rd, 0x09⟩
  | .ctrlwrSystem1 rs => ⟨opCtrlwrForm, rs, 0x09⟩
  | .ctrlrdGpioaPins rd => ⟨opCtrlrdForm, rd, 0x0A⟩
  | .ctrlwrGpioaPins rs => ⟨opCtrlwrForm, rs, 0x0A⟩
  | .ctrlrdProcessors rd => ⟨opCtrlrdForm, rd, 0x0F⟩
  | .ctrlwrProcessors rs => ⟨opCtrlwrForm, rs, 0x0F⟩
  | .ctrlrdMmuX0 rd => ⟨opCtrlrdForm, rd, 0x10⟩
  | .ctrlwrMmuX0 rs => ⟨opCtrlwrForm, rs, 0x10⟩
  | .ctrlrdMmuX1 rd => ⟨opCtrlrdForm, rd, 0x11⟩
  | .ctrlwrMmuX1 rs => ⟨opCtrlwrForm, rs, 0x11⟩
  | .ctrlrdMmuX2 rd => ⟨opCtrlrdForm, rd, 0x12⟩
  | .ctrlwrMmuX2 rs => ⟨opCtrlwrForm, rs, 0x12⟩
  | .ctrlrdMmuX3 rd => ⟨opCtrlrdForm, rd, 0x13⟩
  | .ctrlwrMmuX3 rs => ⟨opCtrlwrForm, rs, 0x13⟩
  | .ctrlrdMmuX4 rd => ⟨opCtrlrdForm, rd, 0x14⟩
  | .ctrlwrMmuX4 rs => ⟨opCtrlwrForm, rs, 0x14⟩
  | .ctrlrdMmuX5 rd => ⟨opCtrlrdForm, rd, 0x15⟩
  | .ctrlwrMmuX5 rs => ⟨opCtrlwrForm, rs, 0x15⟩
  | .ctrlrdMmuX6 rd => ⟨opCtrlrdForm, rd, 0x16⟩
  | .ctrlwrMmuX6 rs => ⟨opCtrlwrForm, rs, 0x16⟩
  | .ctrlrdMmuX7 rd => ⟨opCtrlrdForm, rd, 0x17⟩
  | .ctrlwrMmuX7 rs => ⟨opCtrlwrForm, rs, 0x17⟩
  | .ctrlrdMmuY0 rd => ⟨opCtrlrdForm, rd, 0x20⟩
  | .ctrlwrMmuY0 rs => ⟨opCtrlwrForm, rs, 0x20⟩
  | .ctrlrdMmuY1 rd => ⟨opCtrlrdForm, rd, 0x21⟩
  | .ctrlwrMmuY1 rs => ⟨opCtrlwrForm, rs, 0x21⟩
  | .ctrlrdMmuY2 rd => ⟨opCtrlrdForm, rd, 0x22⟩
  | .ctrlwrMmuY2 rs => ⟨opCtrlwrForm, rs, 0x22⟩
  | .ctrlrdMmuY3 rd => ⟨opCtrlrdForm, rd, 0x23⟩
  | .ctrlwrMmuY3 rs => ⟨opCtrlwrForm, rs, 0x23⟩
  | .ctrlrdMmuY4 rd => ⟨opCtrlrdForm, rd, 0x24⟩
  | .ctrlwrMmuY4 rs => ⟨opCtrlwrForm, rs, 0x24⟩
  | .ctrlrdMmuY5 rd => ⟨opCtrlrdForm, rd, 0x25⟩
  | .ctrlwrMmuY5 rs => ⟨opCtrlwrForm, rs, 0x25⟩
  | .ctrlrdMmuY6 rd => ⟨opCtrlrdForm, rd, 0x26⟩
  | .ctrlwrMmuY6 rs => ⟨opCtrlwrForm, rs, 0x26⟩
  | .ctrlrdMmuY7 rd => ⟨opCtrlrdForm, rd, 0x27⟩
  | .ctrlwrMmuY7 rs => ⟨opCtrlwrForm, rs, 0x27⟩
  | .ctrlrdOverlord0 rd => ⟨opCtrlrdForm, rd, 0x30⟩
  | .ctrlwrOverlord0 rs => ⟨opCtrlwrForm, rs, 0x30⟩
  | .ctrlrdOverlord1 rd => ⟨opCtrlrdForm, rd, 0x31⟩
  | .ctrlwrOverlord1 rs => ⟨opCtrlwrForm, rs, 0x31⟩
  | .ctrlrdOverlord2 rd => ⟨opCtrlrdForm, rd, 0x32⟩
  | .ctrlwrOverlord2 rs => ⟨opCtrlwrForm, rs, 0x32⟩
  | .ctrlrdOverlord3 rd => ⟨opCtrlrdForm, rd, 0x33⟩
  | .ctrlwrOverlord3 rs => ⟨opCtrlwrForm, rs, 0x33⟩
  | .ctrlrdOverlord4 rd => ⟨opCtrlrdForm, rd, 0x34⟩
  | .ctrlwrOverlord4 rs => ⟨opCtrlwrForm, rs, 0x34⟩
  | .ctrlrdOverlord5 rd => ⟨opCtrlrdForm, rd, 0x35⟩
  | .ctrlwrOverlord5 rs => ⟨opCtrlwrForm, rs, 0x35⟩
  | .ctrlrdOverlord6 rd => ⟨opCtrlrdForm, rd, 0x36⟩
  | .ctrlwrOverlord6 rs => ⟨opCtrlwrForm, rs, 0x36⟩
  | .ctrlrdOverlord7 rd => ⟨opCtrlrdForm, rd, 0x37⟩
  | .ctrlwrOverlord7 rs => ⟨opCtrlwrForm, rs, 0x37⟩
  | .ctrlrdUnassigned rd cn => ⟨opCtrlrdForm, rd, cn⟩
  | .ctrlwrUnassigned cn rs => ⟨opCtrlwrForm, rs, cn⟩

/-- The word of a well-formed instruction. -/
def encode (i : Instr) : BitVec 32 :=
  fieldsWord (instrFields i)

/-- The instruction's bytes as the hardware stores them. -/
def encodeBytes (o : ByteOrder) (i : Instr) : List Byte :=
  splitWord o (encode i)

/-- The word whose low `nbits` bits are `w`'s and whose other bits are zero. -/
def tableWord (nbits w : Nat) : BitVec 32 :=
  BitVec.ofNat 32 (w % 2 ^ nbits)

/-- What the decoder reads from the `nbits` bits `w` of a row of the opcode table, stored in the byte order of the machine behind
reset. -/
def decodeTableWord (nbits w : Nat) : Option Instr :=
  match decodeBytes Params.default.instrBaseOrder
      (splitWord Params.default.instrBaseOrder (tableWord nbits w)) with
  | .ok i => some i
  | .error _ => none

end Sys2Proof
end

