-- ==== Sys2Proof/Machine/State.lean ====
section
/-! DEFINITION. The machine's state (10_state.md R10 to R37), the reasons it stops, and reset. -/

namespace Sys2Proof.Machine

/-- Memory's listed bytes, addresses strictly rising. An unlisted address holds no value (log 6). -/
abbrev Memory := List Host.Cell

/-- The canonical form. No byte equals "no value", so this is all of it (log 6). -/
abbrev Memory.wf (m : Memory) : Prop :=
  m.Pairwise (fun c d => c.1 < d.1)

/-- TIMER0's six variables (10_state.md R21). -/
structure Timer0 where
  count : Word
  dingdong : Bool
  alarmEn : Bool
  forgetEn : Bool
  alarmSh : BitVec 4
  forgetSh : BitVec 4
deriving DecidableEq, Repr

/-- Which of the registers that a mode switch or an exception entry goes by have been written since reset, by software or by an
exception entry: until then each holds its unspecified reset value (41_mode_switch.md R146, I31, I32; log 15). -/
structure Written where
  mirrorflags : Bool
  xaddr : Bool
  mirrorxaddr : Bool
deriving DecidableEq, Repr

/-- An externally visible write (40_ctrl_access.md R122, R124; log 19). -/
inductive OutEvent where
  /-- The GPIOA output pins were driven with these levels. -/
  | gpioaPins (levels : Word)
  /-- The PROCESSORS output pins were driven with these levels. -/
  | procPins (levels : Word)
deriving DecidableEq, Repr

/-- All the state of the core, its memory, its parameters and what the environment presents to the next step. -/
structure State where
  /-- The implementation's parameters (00_scope.md R4); no step changes them (log 2). -/
  params : Params
  /-- `x[0]`, `x[1]`, ..., `NUM_GPR` of them (10_state.md R33; log 32). -/
  regs : List Word
  /-- `pc` (R34). -/
  pc : Word
  /-- `EXCN` (R13). -/
  excn : Word
  /-- `FLAGS` (R14 to R17). -/
  flags : Word
  /-- `MIRRORFLAGS` (R18). -/
  mirrorflags : Word
  /-- `XADDR` (R19). -/
  xaddr : Word
  /-- `MIRRORXADDR` (R20). -/
  mirrorxaddr : Word
  /-- TIMER0 (R21). -/
  timer0 : Timer0
  /-- `SYSTEM0` (R25). -/
  system0 : Word
  /-- `SYSTEM1` (R25). -/
  system1 : Word
  /-- `GPIOA_OUT` (R26). -/
  gpioaOut : Word
  /-- `PROC_OUT` (R27). -/
  procOut : Word
  /-- `MMU_X[n]` (R28), with room for every slot the numbers can name, of which there are `MMU_SLOTS` (20_memory.md R69; log 29). -/
  mmuX : Vector Word 16
  /-- `MMU_Y[n]` (R29), as `mmuX`. -/
  mmuY : Vector Word 16
  /-- `OVERLORD[0..7]` (R31). -/
  overlord : Vector (BitVec 32) 8
  /-- Memory, by physical address (20_memory.md R50, R51). -/
  mem : Memory
  /-- Which of `MIRRORFLAGS`, `XADDR` and `MIRRORXADDR` no longer hold their reset value (41_mode_switch.md R146; log 15). -/
  written : Written
  /-- The model's own: what the environment presents to this step (R36; log 11). -/
  inputs : Inputs
  /-- The model's own: how many samples of the environment have been taken (log 11). -/
  draws : Nat
  /-- The model's own: the output events so far, newest first (log 19). -/
  outEvents : List OutEvent
deriving DecidableEq, Repr

/-- Why the machine stops in an error state. -/
inductive Fault where
  /-- A synchronous exception of this kind with `FLAGS.excnenable` = 0: raised by every checked operation (60_exceptions.md
  R165, D14). Safe: the run ends. -/
  | exceptionsDisabled (k : ExcKind)
  /-- A byte of memory that nothing has written was read, by a fetch or a data read (log 6). Safe: the run ends. -/
  | unwrittenMemory (addr : Nat)
deriving DecidableEq, Repr

/-- Why the spec gives a case no meaning. -/
inductive Refusal where
  /-- Raised by an arm of `exec` whose instruction has no meaning in the model; no arm raises it. Safe: the run ends. -/
  | notModelled (mnemonic : String)
  /-- A fetched word is no instruction of the model, and the wider instruction set gives it no exception (60_exceptions.md
  R159, I36; log 9). Safe. -/
  | unimplementedInstruction (e : DecodeError)
  /-- An instruction was fetched with `FLAGS.remenable` = 1 (30_encoding.md R90, D36). Safe. -/
  | riscEmulationMode
  /-- An access to a control-register number that has no register (40_ctrl_access.md R131, R118, D23). Safe. -/
  | unassignedControlRegister (cn : Nat)
  /-- A write of `CTRL_CPUID` (R105, D5). Safe. -/
  | cpuidWrite
  /-- A write of `CTRL_EXCN` (R107, D7). Safe. -/
  | excnWrite
  /-- A write of `CTRL_FLAGS` or `CTRL_MIRRORFLAGS` that sets a reserved bit (R109, R111, D8). Safe. -/
  | reservedFlagBits
  /-- A write of `CTRL_TIMER0` that sets a reserved bit (R117, D8). Safe. -/
  | reservedTimerBits
  /-- An enabled MMU slot whose virtual or physical base is no multiple of its size was met (20_memory.md R61, D27; log 13). Safe. -/
  | misalignedSlot (slot : Fin 16)
  /-- An access of several bytes crosses the end of its MMU slot (20_memory.md R65, D28). Safe. -/
  | crossesSlotEnd (slot : Fin 16)
  /-- `MODESWITCH` while `MIRRORFLAGS` or `MIRRORXADDR` still holds its reset value (41_mode_switch.md R146; log 15). Safe. -/
  | modeSwitchUnset
  /-- An exception is to be taken while `XADDR` or `MIRRORFLAGS` still holds its reset value (93_implementation_defined.md I32,
  60_exceptions.md R171; log 15). Safe. -/
  | handlerUnset (k : ExcKind)
deriving DecidableEq, Repr

/-- `FLAGS` at reset (10_state.md R37, D9). -/
def resetFlags : Word := 0x0000FF01

/-- The reset event, over whatever the machine held: only what the reset table (10_state.md R37) gives a value changes, so
that every register the table calls unspecified keeps any value it had (70_reset_and_hazards.md R200 to R202; log 4), and none of
them counts as written. That memory, of which the table says nothing, keeps every byte is the model's choice (DESIGN CHOICE, unsafe,
log 33). -/
def State.applyReset (s : State) : State :=
  { s with
    flags := resetFlags
    timer0 := { s.timer0 with alarmEn := false, forgetEn := false, dingdong := false }
    gpioaOut := 0
    pc := s.params.resetPc
    written := ⟨false, false, false⟩ }

/-- A machine that holds zero in every register, has the default parameters and lists no memory (logs 2, 4, 6). -/
def State.blank : State where
  params := Params.default
  regs := List.replicate Params.default.numGpr 0
  pc := 0
  excn := 0
  flags := 0
  mirrorflags := 0
  xaddr := 0
  mirrorxaddr := 0
  timer0 := ⟨0, false, false, false, 0, 0⟩
  system0 := 0
  system1 := 0
  gpioaOut := 0
  procOut := 0
  mmuX := Vector.replicate 16 0
  mmuY := Vector.replicate 16 0
  overlord := Vector.replicate 8 0
  mem := []
  written := ⟨false, false, false⟩
  inputs := Config.drawInputs 0
  draws := 1
  outEvents := []

/-- The machine right after reset: the reset event over a blank machine (10_state.md R37; logs 2, 4). -/
def State.reset : State :=
  State.blank.applyReset

end Sys2Proof.Machine
end

