-- ==== Sys2Proof/Machine/Flags.lean ====
section
/-! DEFINITION. The bit fields: of `FLAGS` (10_state.md R14 to R17), of `CTRL_CPUID` (R12), of TIMER0's two views (R22, R23), of the
MMU registers (R28, R29) and of the overlord registers (R31). -/

namespace Sys2Proof.Machine

/-- The low `n` bits of `v`, zero-extended. -/
def lowBits (n : Nat) (v : Word) : Word :=
  (v.setWidth n).setWidth 64

/-- `v` modulo 2^XLEN (00_scope.md R8). -/
def toXlen (p : Params) (v : Word) : Word :=
  lowBits p.xlen.bits v

/-! ## `FLAGS` -/

/-- `sysmode`: system mode (R14). -/
def flagSysmode (f : Word) : Bool := f.getLsbD 0
/-- `excnenable` (R14). -/
def flagExcnenable (f : Word) : Bool := f.getLsbD 1
/-- `tmxenable` (R14). -/
def flagTmxenable (f : Word) : Bool := f.getLsbD 2
/-- `hwxenable` (R14). -/
def flagHwxenable (f : Word) : Bool := f.getLsbD 3
/-- `cpxenable` (R14). -/
def flagCpxenable (f : Word) : Bool := f.getLsbD 4
/-- `critical`: an output to the bus, read by nothing in the core (R14, 60_exceptions.md R195). -/
def flagCritical (f : Word) : Bool := f.getLsbD 5
/-- `mmuenable` (R14). -/
def flagMmuenable (f : Word) : Bool := f.getLsbD 6
/-- `regprot` (R15; 90_conflicts.md C1). -/
def flagRegprot (f : Word) : Nat := (f.extractLsb' 8 8).toNat
/-- `overlordenable` (R16). -/
def flagOverlordenable (f : Word) : Bool := f.getLsbD 16
/-- `instrendswap` (R16). -/
def flagInstrendswap (f : Word) : Bool := f.getLsbD 17
/-- `remenable` (R16). -/
def flagRemenable (f : Word) : Bool := f.getLsbD 18

/-- `FLAGS[7]`, `FLAGS[23:19]` and `FLAGS[XLEN-1:24]` are zero (R17). -/
def flagsReservedClear (f : Word) : Bool :=
  !f.getLsbD 7 && f.extractLsb' 19 45 == 0

/-! ## `CTRL_CPUID` -/

/-- `CTRL_CPUID`: the 64-bit layout, of which `XLEN` bits are read (R12, 40_ctrl_access.md R104; 90_conflicts.md C4). The byte
`maxmmuslot` is `MMU_SLOTS - 1` (20_memory.md R69), the byte `maxgpr` is `NUM_GPR - 1` (00_scope.md R4). -/
def cpuidValue (p : Params) : Word :=
  toXlen p (p.signature ++ p.cpuidByte3 ++ BitVec.ofNat 8 (p.mmuSlots - 1) ++ 0x01#8 ++ BitVec.ofNat 8 (p.numGpr - 1))

/-! ## TIMER0 -/

/-- The read view (R22). -/
def timer0ReadView (t : Timer0) : Word :=
  t.count.extractLsb' 8 56 ++ 0#7 ++ BitVec.ofBool t.dingdong

/-- Bits [7:4], [15:12] and [XLEN-1:20] of a written value are zero (R23). -/
def timer0ReservedClear (v : Word) : Bool :=
  v.extractLsb' 4 4 == 0 && v.extractLsb' 12 4 == 0 && v.extractLsb' 20 44 == 0

/-- The write view of a value with no reserved bit set: the configuration is replaced, `Clear` zeroes the count and
dingdong, `Sleep` zeroes dingdong (R23, 40_ctrl_access.md R117). -/
def timer0Write (v : Word) (t : Timer0) : Timer0 where
  count := if v.getLsbD 0 then 0 else t.count
  dingdong := t.dingdong && !v.getLsbD 0 && !v.getLsbD 3
  alarmEn := v.getLsbD 1
  forgetEn := v.getLsbD 2
  alarmSh := v.extractLsb' 8 4
  forgetSh := v.extractLsb' 16 4

/-- The threshold of a 4-bit field: `16 << sh` (60_exceptions.md R181). -/
def threshold (sh : BitVec 4) : Word :=
  16#64 <<< sh.toNat

/-! ## The MMU registers -/

/-- `sizeshift`, as a size in bytes: `1024 << sizeshift` (R28; 90_conflicts.md C2). -/
def slotSize (x : Word) : Nat := 1024 <<< (x.extractLsb' 0 4).toNat
/-- `system` (R28). -/
def slotSystem (x : Word) : Bool := x.getLsbD 4
/-- `read` (R28). -/
def slotRead (x : Word) : Bool := x.getLsbD 5
/-- `write` (R28). -/
def slotWrite (x : Word) : Bool := x.getLsbD 6
/-- `instr` (R28). -/
def slotInstr (x : Word) : Bool := x.getLsbD 7
/-- `io` (R28). -/
def slotIo (x : Word) : Bool := x.getLsbD 8
/-- `enabled` (R28). -/
def slotEnabled (x : Word) : Bool := x.getLsbD 9
/-- `vbase` or `pbase` followed by ten zeros (R28, R29). -/
def slotBase (v : Word) : Word := v.extractLsb' 10 54 ++ 0#10

/-! ## The overlord registers -/

/-- Overlord bit `i`: bit `i & 31` of `OVERLORD[i >> 5]` (R31). -/
def overlordBit (s : State) (i : BitVec 8) : Bool :=
  (s.overlord[i.toNat / 32]'(by have := i.isLt; omega)).getLsbD (i.toNat % 32)

end Sys2Proof.Machine
end

