-- ==== Sys2Proof/Machine/Ops.lean ====
section
/-! DEFINITION. The shared operations: memory, taking an exception and returning from one, stopping, the environment's
samples, output events. -/

namespace Sys2Proof.Machine

/-! ## Memory, by physical address -/

/-- The byte at an address, if anything has written it (log 6). -/
def memRead (m : Memory) (a : Nat) : Option Byte :=
  m.lookup a

/-- Writing one byte keeps the addresses strictly rising. -/
def memWrite (m : Memory) (a : Nat) (b : Byte) : Memory :=
  match m with
  | [] => [(a, b)]
  | c :: rest =>
    if a < c.1 then (a, b) :: c :: rest
    else if a = c.1 then (a, b) :: rest
    else c :: memWrite rest a b

/-- The `k`-th byte's address of an access at `pa`, modulo 2^XLEN (log 7). -/
def byteAddr (p : Params) (pa : Word) (k : Nat) : Nat :=
  (pa.toNat + k) % 2 ^ p.xlen.bits

/-- The `k`-th byte of an access at physical address `pa`. -/
def memReadByte (s : State) (pa : Word) (k : Nat) : Except Fault Byte :=
  match memRead s.mem (byteAddr s.params pa k) with
  | some b => .ok b
  | none => .error (.unwrittenMemory (byteAddr s.params pa k))

/-- Bytes `k` to `k + n - 1` of an access at physical address `pa`, the one at the lowest address first (00_scope.md R8
`MemRead`). -/
def memReadBytes (s : State) (pa : Word) (k n : Nat) : Except Fault (List Byte) :=
  match n with
  | 0 => .ok []
  | n + 1 => do
    let b ← memReadByte s pa k
    let rest ← memReadBytes s pa (k + 1) n
    return b :: rest

/-- Memory with `bytes` written as bytes `k`, `k + 1`, ... of an access at physical address `pa`. -/
def memWriteFrom (p : Params) (m : Memory) (pa : Word) (k : Nat) (bytes : List Byte) : Memory :=
  match bytes with
  | [] => m
  | b :: rest => memWriteFrom p (memWrite m (byteAddr p pa k) b) pa (k + 1) rest

/-- Writes bytes at consecutive physical addresses from `pa` on (00_scope.md R8 `MemWrite`). -/
def memWriteBytes (s : State) (pa : Word) (bytes : List Byte) : State :=
  { s with mem := memWriteFrom s.params s.mem pa 0 bytes }

/-- None of the `n` addresses from `pa` on lies in a hole. -/
def avoidsHoles (p : Params) (holes : List Region) (pa : Word) (n : Nat) : Bool :=
  (List.range n).all fun k => holes.all fun r => byteAddr p pa k < r.base || r.base + r.size ≤ byteAddr p pa k

/-! ## Exceptions -/

/-- What a check of an instruction ends in when it does not let the instruction go on. -/
inductive Stop where
  /-- `raise K` (00_scope.md R8). -/
  | raise (k : ExcKind)
  /-- `fault` (00_scope.md R8). -/
  | fault (f : Fault)
  /-- `refuse` (00_scope.md R8). -/
  | refuse (r : Refusal)
deriving DecidableEq, Repr

/-- `(FLAGS, MIRRORFLAGS) <- (MIRRORFLAGS, FLAGS)`: the mode switch (10_state.md R18). -/
def swapFlags (s : State) : State :=
  { s with flags := s.mirrorflags, mirrorflags := s.flags }

/-- dingdong after the entry for an exception: the timer's own entry clears it (60_exceptions.md R184). -/
def dingdongAfterEntry (k : ExcKind) (d : Bool) : Bool :=
  match k with
  | .timer => false
  | _ => d

/-- Taking an exception of kind `k`, with `pc` the address of the current instruction, or of the one about to be fetched
(60_exceptions.md R170, D13). -/
def enterException (k : ExcKind) (s : State) : State :=
  { s with
    excn := toXlen s.params (Config.excCode k)
    mirrorxaddr := s.pc
    flags := s.mirrorflags
    mirrorflags := s.flags
    timer0 := { s.timer0 with dingdong := dingdongAfterEntry k s.timer0.dingdong }
    pc := s.xaddr
    written := { s.written with mirrorxaddr := true } }

/-- Returning from an exception: the flags pair is swapped and `pc <- MIRRORXADDR` (41_mode_switch.md R140, R142). -/
def returnFromException (s : State) : State :=
  { swapFlags s with pc := s.mirrorxaddr }

/-- What exception entry goes by has been written: `XADDR` and `MIRRORFLAGS` (I32; log 15). -/
def entryReady (s : State) : Bool :=
  s.written.xaddr && s.written.mirrorflags

/-- What a mode switch goes by has been written: `MIRRORFLAGS` and `MIRRORXADDR` (41_mode_switch.md R146; log 15). -/
def returnReady (s : State) : Bool :=
  s.written.mirrorflags && s.written.mirrorxaddr

/-- `raise K`: the exception is taken if `FLAGS.excnenable` = 1; otherwise the run ends (00_scope.md R8, 60_exceptions.md R165). The
spec gives no meaning to an entry over unspecified reset values (I32). -/
def raiseException (k : ExcKind) (s : State) : Host.Outcome State Fault Refusal :=
  if flagExcnenable s.flags then
    if entryReady s then .next (enterException k s) else .refused (.handlerUnset k)
  else .fault (.exceptionsDisabled k)

/-- The outcome of a stop. -/
def stopOutcome (e : Stop) (s : State) : Host.Outcome State Fault Refusal :=
  match e with
  | .raise k => raiseException k s
  | .fault f => .fault f
  | .refuse r => .refused r

/-- What the system-call instruction does; the source gives it no encoding and the table no row (60_exceptions.md R158; log 21). -/
def systemCall (s : State) : Host.Outcome State Fault Refusal :=
  raiseException .syscall s

/-! ## The environment -/

/-- The next sample of the environment: the inputs of the next step (10_state.md R36; log 11). -/
def sampleInputs (s : State) : State :=
  { s with inputs := Config.drawInputs s.draws, draws := s.draws + 1 }

/-- Records an output event (40_ctrl_access.md R122, R124; log 19). -/
def emit (e : OutEvent) (s : State) : State :=
  { s with outEvents := e :: s.outEvents }

end Sys2Proof.Machine
end

