-- ==== Sys2Proof/Machine/Operands.lean ====
section
/-! DEFINITION. The operand forms: general registers (10_state.md R33) and control-register numbers (R10), and the checks an
instruction makes of them (40_ctrl_access.md R102, R103). -/

namespace Sys2Proof.Machine

/-- `x[r]`; every instruction checks `r` first (60_exceptions.md R155). -/
def readReg (s : State) (r : Nat) : Word :=
  s.regs[r]?.getD 0

/-- `x[r] <- v`. -/
def writeReg (s : State) (r : Nat) (v : Word) : State :=
  { s with regs := s.regs.set r v }

/-- `RegAccessible(r)`: `r <= FLAGS.regprot`, and `r` is at most `CTRL_CPUID`'s `maxgpr`, which is `NUM_GPR - 1`
(60_exceptions.md R155; 00_scope.md R4, I16; log 32). -/
def regAccessible (s : State) (r : Nat) : Bool :=
  r ≤ flagRegprot s.flags && r < s.params.numGpr

/-- `pc <- pc + 4` (10_state.md R34). That the address after the last one is 0, addition being modulo 2^XLEN, is the model's choice
(DESIGN CHOICE, unsafe, log 31). -/
def advancePc (s : State) : State :=
  { s with pc := toXlen s.params (s.pc + 4) }

/-- The control registers there are (10_state.md R10). -/
inductive CtrlReg where
  | cpuid
  | excn
  | flags
  | mirrorflags
  | xaddr
  | mirrorxaddr
  | timer0
  | system0
  | system1
  | gpioaPins
  | processors
  | mmuX (n : Fin 16)
  | mmuY (n : Fin 16)
  | overlord (n : Fin 8)
deriving DecidableEq, Repr

/-- The control register of a number; `CTRL_TIMER1` (7) is none, nor is the number of a slot there is not (10_state.md R10, R24, R32,
20_memory.md R69; log 29). -/
def ctrlRegOf (p : Params) (cn : Nat) : Option CtrlReg :=
  if cn = 0x00 then some .cpuid
  else if cn = 0x01 then some .excn
  else if cn = 0x02 then some .flags
  else if cn = 0x03 then some .mirrorflags
  else if cn = 0x04 then some .xaddr
  else if cn = 0x05 then some .mirrorxaddr
  else if cn = 0x06 then some .timer0
  else if cn = 0x08 then some .system0
  else if cn = 0x09 then some .system1
  else if cn = 0x0A then some .gpioaPins
  else if cn = 0x0F then some .processors
  else if h : 0x10 ≤ cn ∧ cn < 0x20 ∧ cn < 0x10 + p.mmuSlots then some (.mmuX ⟨cn - 0x10, by omega⟩)
  else if h : 0x20 ≤ cn ∧ cn < 0x30 ∧ cn < 0x20 + p.mmuSlots then some (.mmuY ⟨cn - 0x20, by omega⟩)
  else if h : 0x30 ≤ cn ∧ cn < 0x38 then some (.overlord ⟨cn - 0x30, by omega⟩)
  else none

/-- `CtrlAllowed(cn, dir)` (40_ctrl_access.md R102). -/
def ctrlAllowed (s : State) (cn : Nat) (dir : Dir) : Bool :=
  flagSysmode s.flags || s.params.userCtrlSafe.contains (cn, dir)

/-- Steps 4 to 6 of `PreChecks(r, cn, dir)`, in their order (40_ctrl_access.md R103, D16). Steps 1 to 3 are those of every
instruction (`fetchInstr`). -/
def preChecks (r cn : Nat) (dir : Dir) (s : State) : Except Stop CtrlReg :=
  if ctrlAllowed s cn dir then
    if regAccessible s r then
      match ctrlRegOf s.params cn with
      | some reg => .ok reg
      | none => .error (.refuse (.unassignedControlRegister cn))
    else .error (.raise .regprot)
  else .error (.raise .priv)

end Sys2Proof.Machine
end

