-- ==== Sys2Proof/Machine/CtrlRead.lean ====
section
/-! DEFINITION. `CTRLRD` and its forms: reading control registers (40_ctrl_access.md R100, R104 to R131). -/

namespace Sys2Proof.Machine

/-- `CtrlRead` of a register, the value an instruction receives (40_ctrl_access.md R104 to R129). No read changes the state
(20_memory.md R73). -/
def ctrlRead (reg : CtrlReg) (s : State) : Word :=
  match reg with
  | .cpuid => cpuidValue s.params                                     -- R104
  | .excn => s.excn                                                   -- R106
  | .flags => s.flags                                                 -- R108
  | .mirrorflags => s.mirrorflags                                     -- R110
  | .xaddr => s.xaddr                                                 -- R112
  | .mirrorxaddr => s.mirrorxaddr                                     -- R114
  | .timer0 => timer0ReadView s.timer0                                -- R116
  | .system0 => s.system0                                             -- R119
  | .system1 => s.system1                                             -- R119
  | .gpioaPins => lowBits s.params.gpioaWidth s.inputs.gpioaPins      -- R121
  | .processors => lowBits s.params.procWidth s.inputs.procPins       -- R123
  | .mmuX n => s.mmuX[n]                                              -- R125
  | .mmuY n => s.mmuY[n]                                              -- R127
  | .overlord n => s.overlord[n].setWidth 64                          -- R129

/-- `CTRLRD rd, cn` once the instruction is fetched (40_ctrl_access.md R100). -/
def readCtrl (rd cn : Nat) (s : State) : Host.Outcome State Fault Refusal :=
  match preChecks rd cn .read s with
  | .error e => stopOutcome e s
  | .ok reg => .next (advancePc (writeReg s rd (ctrlRead reg s)))

/-- `CTRLRD` (R100). -/
def execCtrlrd (rd cn : Nat) (s : State) : Host.Outcome State Fault Refusal :=
  readCtrl rd cn s

/-- `CTRLRD.CTRL_CPUID` (R104). -/
def execCtrlrdCpuid (rd : Nat) (s : State) : Host.Outcome State Fault Refusal :=
  readCtrl rd 0x00 s

/-- `CTRLRD.CTRL_EXCN` (R106). -/
def execCtrlrdExcn (rd : Nat) (s : State) : Host.Outcome State Fault Refusal :=
  readCtrl rd 0x01 s

/-- `CTRLRD.CTRL_FLAGS` (R108). -/
def execCtrlrdFlags (rd : Nat) (s : State) : Host.Outcome State Fault Refusal :=
  readCtrl rd 0x02 s

/-- `CTRLRD.CTRL_MIRRORFLAGS` (R110). -/
def execCtrlrdMirrorflags (rd : Nat) (s : State) : Host.Outcome State Fault Refusal :=
  readCtrl rd 0x03 s

/-- `CTRLRD.CTRL_XADDR` (R112). -/
def execCtrlrdXaddr (rd : Nat) (s : State) : Host.Outcome State Fault Refusal :=
  readCtrl rd 0x04 s

/-- `CTRLRD.CTRL_MIRRORXADDR` (R114). -/
def execCtrlrdMirrorxaddr (rd : Nat) (s : State) : Host.Outcome State Fault Refusal :=
  readCtrl rd 0x05 s

/-- `CTRLRD.CTRL_TIMER0` (R116). -/
def execCtrlrdTimer0 (rd : Nat) (s : State) : Host.Outcome State Fault Refusal :=
  readCtrl rd 0x06 s

/-- `CTRLRD.CTRL_TIMER1` (R118). -/
def execCtrlrdTimer1 (rd : Nat) (s : State) : Host.Outcome State Fault Refusal :=
  readCtrl rd 0x07 s

/-- `CTRLRD.CTRL_SYSTEM0` (R119). -/
def execCtrlrdSystem0 (rd : Nat) (s : State) : Host.Outcome State Fault Refusal :=
  readCtrl rd 0x08 s

/-- `CTRLRD.CTRL_SYSTEM1` (R119). -/
def execCtrlrdSystem1 (rd : Nat) (s : State) : Host.Outcome State Fault Refusal :=
  readCtrl rd 0x09 s

/-- `CTRLRD.CTRL_GPIOA_PINS` (R121). -/
def execCtrlrdGpioaPins (rd : Nat) (s : State) : Host.Outcome State Fault Refusal :=
  readCtrl rd 0x0A s

/-- `CTRLRD.CTRL_PROCESSORS` (R123). -/
def execCtrlrdProcessors (rd : Nat) (s : State) : Host.Outcome State Fault Refusal :=
  readCtrl rd 0x0F s

/-- `CTRLRD.CTRL_MMU_X0` (R125). -/
def execCtrlrdMmuX0 (rd : Nat) (s : State) : Host.Outcome State Fault Refusal :=
  readCtrl rd 0x10 s

/-- `CTRLRD.CTRL_MMU_X1` (R125). -/
def execCtrlrdMmuX1 (rd : Nat) (s : State) : Host.Outcome State Fault Refusal :=
  readCtrl rd 0x11 s

/-- `CTRLRD.CTRL_MMU_X2` (R125). -/
def execCtrlrdMmuX2 (rd : Nat) (s : State) : Host.Outcome State Fault Refusal :=
  readCtrl rd 0x12 s

/-- `CTRLRD.CTRL_MMU_X3` (R125). -/
def execCtrlrdMmuX3 (rd : Nat) (s : State) : Host.Outcome State Fault Refusal :=
  readCtrl rd 0x13 s

/-- `CTRLRD.CTRL_MMU_X4` (R125). -/
def execCtrlrdMmuX4 (rd : Nat) (s : State) : Host.Outcome State Fault Refusal :=
  readCtrl rd 0x14 s

/-- `CTRLRD.CTRL_MMU_X5` (R125). -/
def execCtrlrdMmuX5 (rd : Nat) (s : State) : Host.Outcome State Fault Refusal :=
  readCtrl rd 0x15 s

/-- `CTRLRD.CTRL_MMU_X6` (R125). -/
def execCtrlrdMmuX6 (rd : Nat) (s : State) : Host.Outcome State Fault Refusal :=
  readCtrl rd 0x16 s

/-- `CTRLRD.CTRL_MMU_X7` (R125). -/
def execCtrlrdMmuX7 (rd : Nat) (s : State) : Host.Outcome State Fault Refusal :=
  readCtrl rd 0x17 s

/-- `CTRLRD.CTRL_MMU_Y0` (R127). -/
def execCtrlrdMmuY0 (rd : Nat) (s : State) : Host.Outcome State Fault Refusal :=
  readCtrl rd 0x20 s

/-- `CTRLRD.CTRL_MMU_Y1` (R127). -/
def execCtrlrdMmuY1 (rd : Nat) (s : State) : Host.Outcome State Fault Refusal :=
  readCtrl rd 0x21 s

/-- `CTRLRD.CTRL_MMU_Y2` (R127). -/
def execCtrlrdMmuY2 (rd : Nat) (s : State) : Host.Outcome State Fault Refusal :=
  readCtrl rd 0x22 s

/-- `CTRLRD.CTRL_MMU_Y3` (R127). -/
def execCtrlrdMmuY3 (rd : Nat) (s : State) : Host.Outcome State Fault Refusal :=
  readCtrl rd 0x23 s

/-- `CTRLRD.CTRL_MMU_Y4` (R127). -/
def execCtrlrdMmuY4 (rd : Nat) (s : State) : Host.Outcome State Fault Refusal :=
  readCtrl rd 0x24 s

/-- `CTRLRD.CTRL_MMU_Y5` (R127). -/
def execCtrlrdMmuY5 (rd : Nat) (s : State) : Host.Outcome State Fault Refusal :=
  readCtrl rd 0x25 s

/-- `CTRLRD.CTRL_MMU_Y6` (R127). -/
def execCtrlrdMmuY6 (rd : Nat) (s : State) : Host.Outcome State Fault Refusal :=
  readCtrl rd 0x26 s

/-- `CTRLRD.CTRL_MMU_Y7` (R127). -/
def execCtrlrdMmuY7 (rd : Nat) (s : State) : Host.Outcome State Fault Refusal :=
  readCtrl rd 0x27 s

/-- `CTRLRD.CTRL_OVERLORD_0` (R129). -/
def execCtrlrdOverlord0 (rd : Nat) (s : State) : Host.Outcome State Fault Refusal :=
  readCtrl rd 0x30 s

/-- `CTRLRD.CTRL_OVERLORD_1` (R129). -/
def execCtrlrdOverlord1 (rd : Nat) (s : State) : Host.Outcome State Fault Refusal :=
  readCtrl rd 0x31 s

/-- `CTRLRD.CTRL_OVERLORD_2` (R129). -/
def execCtrlrdOverlord2 (rd : Nat) (s : State) : Host.Outcome State Fault Refusal :=
  readCtrl rd 0x32 s

/-- `CTRLRD.CTRL_OVERLORD_3` (R129). -/
def execCtrlrdOverlord3 (rd : Nat) (s : State) : Host.Outcome State Fault Refusal :=
  readCtrl rd 0x33 s

/-- `CTRLRD.CTRL_OVERLORD_4` (R129). -/
def execCtrlrdOverlord4 (rd : Nat) (s : State) : Host.Outcome State Fault Refusal :=
  readCtrl rd 0x34 s

/-- `CTRLRD.CTRL_OVERLORD_5` (R129). -/
def execCtrlrdOverlord5 (rd : Nat) (s : State) : Host.Outcome State Fault Refusal :=
  readCtrl rd 0x35 s

/-- `CTRLRD.CTRL_OVERLORD_6` (R129). -/
def execCtrlrdOverlord6 (rd : Nat) (s : State) : Host.Outcome State Fault Refusal :=
  readCtrl rd 0x36 s

/-- `CTRLRD.CTRL_OVERLORD_7` (R129). -/
def execCtrlrdOverlord7 (rd : Nat) (s : State) : Host.Outcome State Fault Refusal :=
  readCtrl rd 0x37 s

/-- `CTRLRD.<unassigned>` (R131). -/
def execCtrlrdUnassigned (rd cn : Nat) (s : State) : Host.Outcome State Fault Refusal :=
  readCtrl rd cn s

end Sys2Proof.Machine
end

