-- ==== Sys2Proof/Machine/CtrlWrite.lean ====
section
/-! DEFINITION. `CTRLWR` and its forms: writing control registers (40_ctrl_access.md R101, R105 to R131). -/

namespace Sys2Proof.Machine

/-- `CtrlWrite` of a register: the state it leaves, or the spec's refusal (40_ctrl_access.md R105 to R130). -/
def ctrlWrite (reg : CtrlReg) (v : Word) (s : State) : Except Refusal State :=
  match reg with
  | .cpuid => .error .cpuidWrite                                                                  -- R105
  | .excn => .error .excnWrite                                                                    -- R107
  | .flags =>                                                                                     -- R109
    if flagsReservedClear v then .ok { s with flags := v } else .error .reservedFlagBits
  | .mirrorflags =>                                                                               -- R111
    if flagsReservedClear v then .ok { s with mirrorflags := v, written := { s.written with mirrorflags := true } }
    else .error .reservedFlagBits
  | .xaddr =>                                                                                     -- R113
    .ok { s with xaddr := v, written := { s.written with xaddr := true } }
  | .mirrorxaddr =>                                                                               -- R115
    .ok { s with mirrorxaddr := v, written := { s.written with mirrorxaddr := true } }
  | .timer0 =>                                                                                    -- R117
    if timer0ReservedClear v then .ok { s with timer0 := timer0Write v s.timer0 }
    else .error .reservedTimerBits
  | .system0 => .ok { s with system0 := v }                                                       -- R120
  | .system1 => .ok { s with system1 := v }                                                       -- R120
  | .gpioaPins =>                                                                                 -- R122
    let levels := lowBits s.params.gpioaWidth v
    .ok (emit (.gpioaPins levels) { s with gpioaOut := levels })
  | .processors =>                                                                                -- R124
    let levels := lowBits s.params.procWidth v
    .ok (emit (.procPins levels) { s with procOut := levels })
  | .mmuX n => .ok { s with mmuX := s.mmuX.set n v }                                              -- R126
  | .mmuY n => .ok { s with mmuY := s.mmuY.set n v }                                              -- R128
  | .overlord n => .ok { s with overlord := s.overlord.set n (v.setWidth 32) }                    -- R130

/-- `CTRLWR cn, rs` once the instruction is fetched (40_ctrl_access.md R101). -/
def writeCtrl (cn rs : Nat) (s : State) : Host.Outcome State Fault Refusal :=
  match preChecks rs cn .write s with
  | .error e => stopOutcome e s
  | .ok reg =>
    match ctrlWrite reg (readReg s rs) s with
    | .error r => .refused r
    | .ok t => .next (advancePc t)

/-- `CTRLWR` (R101). -/
def execCtrlwr (cn rs : Nat) (s : State) : Host.Outcome State Fault Refusal :=
  writeCtrl cn rs s

/-- `CTRLWR.CTRL_CPUID` (R105). -/
def execCtrlwrCpuid (rs : Nat) (s : State) : Host.Outcome State Fault Refusal :=
  writeCtrl 0x00 rs s

/-- `CTRLWR.CTRL_EXCN` (R107). -/
def execCtrlwrExcn (rs : Nat) (s : State) : Host.Outcome State Fault Refusal :=
  writeCtrl 0x01 rs s

/-- `CTRLWR.CTRL_FLAGS` (R109). -/
def execCtrlwrFlags (rs : Nat) (s : State) : Host.Outcome State Fault Refusal :=
  writeCtrl 0x02 rs s

/-- `CTRLWR.CTRL_MIRRORFLAGS` (R111). -/
def execCtrlwrMirrorflags (rs : Nat) (s : State) : Host.Outcome State Fault Refusal :=
  writeCtrl 0x03 rs s

/-- `CTRLWR.CTRL_XADDR` (R113). -/
def execCtrlwrXaddr (rs : Nat) (s : State) : Host.Outcome State Fault Refusal :=
  writeCtrl 0x04 rs s

/-- `CTRLWR.CTRL_MIRRORXADDR` (R115). -/
def execCtrlwrMirrorxaddr (rs : Nat) (s : State) : Host.Outcome State Fault Refusal :=
  writeCtrl 0x05 rs s

/-- `CTRLWR.CTRL_TIMER0` (R117). -/
def execCtrlwrTimer0 (rs : Nat) (s : State) : Host.Outcome State Fault Refusal :=
  writeCtrl 0x06 rs s

/-- `CTRLWR.CTRL_TIMER1` (R118). -/
def execCtrlwrTimer1 (rs : Nat) (s : State) : Host.Outcome State Fault Refusal :=
  writeCtrl 0x07 rs s

/-- `CTRLWR.CTRL_SYSTEM0` (R120). -/
def execCtrlwrSystem0 (rs : Nat) (s : State) : Host.Outcome State Fault Refusal :=
  writeCtrl 0x08 rs s

/-- `CTRLWR.CTRL_SYSTEM1` (R120). -/
def execCtrlwrSystem1 (rs : Nat) (s : State) : Host.Outcome State Fault Refusal :=
  writeCtrl 0x09 rs s

/-- `CTRLWR.CTRL_GPIOA_PINS` (R122). -/
def execCtrlwrGpioaPins (rs : Nat) (s : State) : Host.Outcome State Fault Refusal :=
  writeCtrl 0x0A rs s

/-- `CTRLWR.CTRL_PROCESSORS` (R124). -/
def execCtrlwrProcessors (rs : Nat) (s : State) : Host.Outcome State Fault Refusal :=
  writeCtrl 0x0F rs s

/-- `CTRLWR.CTRL_MMU_X0` (R126). -/
def execCtrlwrMmuX0 (rs : Nat) (s : State) : Host.Outcome State Fault Refusal :=
  writeCtrl 0x10 rs s

/-- `CTRLWR.CTRL_MMU_X1` (R126). -/
def execCtrlwrMmuX1 (rs : Nat) (s : State) : Host.Outcome State Fault Refusal :=
  writeCtrl 0x11 rs s

/-- `CTRLWR.CTRL_MMU_X2` (R126). -/
def execCtrlwrMmuX2 (rs : Nat) (s : State) : Host.Outcome State Fault Refusal :=
  writeCtrl 0x12 rs s

/-- `CTRLWR.CTRL_MMU_X3` (R126). -/
def execCtrlwrMmuX3 (rs : Nat) (s : State) : Host.Outcome State Fault Refusal :=
  writeCtrl 0x13 rs s

/-- `CTRLWR.CTRL_MMU_X4` (R126). -/
def execCtrlwrMmuX4 (rs : Nat) (s : State) : Host.Outcome State Fault Refusal :=
  writeCtrl 0x14 rs s

/-- `CTRLWR.CTRL_MMU_X5` (R126). -/
def execCtrlwrMmuX5 (rs : Nat) (s : State) : Host.Outcome State Fault Refusal :=
  writeCtrl 0x15 rs s

/-- `CTRLWR.CTRL_MMU_X6` (R126). -/
def execCtrlwrMmuX6 (rs : Nat) (s : State) : Host.Outcome State Fault Refusal :=
  writeCtrl 0x16 rs s

/-- `CTRLWR.CTRL_MMU_X7` (R126). -/
def execCtrlwrMmuX7 (rs : Nat) (s : State) : Host.Outcome State Fault Refusal :=
  writeCtrl 0x17 rs s

/-- `CTRLWR.CTRL_MMU_Y0` (R128). -/
def execCtrlwrMmuY0 (rs : Nat) (s : State) : Host.Outcome State Fault Refusal :=
  writeCtrl 0x20 rs s

/-- `CTRLWR.CTRL_MMU_Y1` (R128). -/
def execCtrlwrMmuY1 (rs : Nat) (s : State) : Host.Outcome State Fault Refusal :=
  writeCtrl 0x21 rs s

/-- `CTRLWR.CTRL_MMU_Y2` (R128). -/
def execCtrlwrMmuY2 (rs : Nat) (s : State) : Host.Outcome State Fault Refusal :=
  writeCtrl 0x22 rs s

/-- `CTRLWR.CTRL_MMU_Y3` (R128). -/
def execCtrlwrMmuY3 (rs : Nat) (s : State) : Host.Outcome State Fault Refusal :=
  writeCtrl 0x23 rs s

/-- `CTRLWR.CTRL_MMU_Y4` (R128). -/
def execCtrlwrMmuY4 (rs : Nat) (s : State) : Host.Outcome State Fault Refusal :=
  writeCtrl 0x24 rs s

/-- `CTRLWR.CTRL_MMU_Y5` (R128). -/
def execCtrlwrMmuY5 (rs : Nat) (s : State) : Host.Outcome State Fault Refusal :=
  writeCtrl 0x25 rs s

/-- `CTRLWR.CTRL_MMU_Y6` (R128). -/
def execCtrlwrMmuY6 (rs : Nat) (s : State) : Host.Outcome State Fault Refusal :=
  writeCtrl 0x26 rs s

/-- `CTRLWR.CTRL_MMU_Y7` (R128). -/
def execCtrlwrMmuY7 (rs : Nat) (s : State) : Host.Outcome State Fault Refusal :=
  writeCtrl 0x27 rs s

/-- `CTRLWR.CTRL_OVERLORD_0` (R130). -/
def execCtrlwrOverlord0 (rs : Nat) (s : State) : Host.Outcome State Fault Refusal :=
  writeCtrl 0x30 rs s

/-- `CTRLWR.CTRL_OVERLORD_1` (R130). -/
def execCtrlwrOverlord1 (rs : Nat) (s : State) : Host.Outcome State Fault Refusal :=
  writeCtrl 0x31 rs s

/-- `CTRLWR.CTRL_OVERLORD_2` (R130). -/
def execCtrlwrOverlord2 (rs : Nat) (s : State) : Host.Outcome State Fault Refusal :=
  writeCtrl 0x32 rs s

/-- `CTRLWR.CTRL_OVERLORD_3` (R130). -/
def execCtrlwrOverlord3 (rs : Nat) (s : State) : Host.Outcome State Fault Refusal :=
  writeCtrl 0x33 rs s

/-- `CTRLWR.CTRL_OVERLORD_4` (R130). -/
def execCtrlwrOverlord4 (rs : Nat) (s : State) : Host.Outcome State Fault Refusal :=
  writeCtrl 0x34 rs s

/-- `CTRLWR.CTRL_OVERLORD_5` (R130). -/
def execCtrlwrOverlord5 (rs : Nat) (s : State) : Host.Outcome State Fault Refusal :=
  writeCtrl 0x35 rs s

/-- `CTRLWR.CTRL_OVERLORD_6` (R130). -/
def execCtrlwrOverlord6 (rs : Nat) (s : State) : Host.Outcome State Fault Refusal :=
  writeCtrl 0x36 rs s

/-- `CTRLWR.CTRL_OVERLORD_7` (R130). -/
def execCtrlwrOverlord7 (rs : Nat) (s : State) : Host.Outcome State Fault Refusal :=
  writeCtrl 0x37 rs s

/-- `CTRLWR.<unassigned>` (R131). -/
def execCtrlwrUnassigned (cn rs : Nat) (s : State) : Host.Outcome State Fault Refusal :=
  writeCtrl cn rs s

end Sys2Proof.Machine
end

