-- ==== Sys2Proof/Machine/ModeSwitch.lean ====
section
/-! DEFINITION. `MODESWITCH`: the mode switch and the return from an exception (41_mode_switch.md R140 to R147). -/

namespace Sys2Proof.Machine

/-- `MODESWITCH` (R140): a system-mode operation (R141, D11). The spec gives it no meaning before `MIRRORFLAGS` and `MIRRORXADDR` have
been written (R146; log 15). -/
def execModeswitch (s : State) : Host.Outcome State Fault Refusal :=
  if flagSysmode s.flags then
    if returnReady s then .next (returnFromException s) else .refused .modeSwitchUnset
  else raiseException .priv s

end Sys2Proof.Machine
end

