-- ==== Sys2Proof/Machine/Dispatch.lean ====
section
/-! DEFINITION. One arm per instruction: each instruction's meaning once it is fetched (60_exceptions.md R168 step 6). -/

namespace Sys2Proof.Machine

def exec (i : Instr) (s : State) : Host.Outcome State Fault Refusal :=
  match i with
  | .ctrlrd rd cn => Sys2Proof.Machine.execCtrlrd rd cn s
  | .ctrlwr cn rs => Sys2Proof.Machine.execCtrlwr cn rs s
  | .modeswitch => Sys2Proof.Machine.execModeswitch s
  | .ctrlrdCpuid rd => Sys2Proof.Machine.execCtrlrdCpuid rd s
  | .ctrlwrCpuid rs => Sys2Proof.Machine.execCtrlwrCpuid rs s
  | .ctrlrdExcn rd => Sys2Proof.Machine.execCtrlrdExcn rd s
  | .ctrlwrExcn rs => Sys2Proof.Machine.execCtrlwrExcn rs s
  | .ctrlrdFlags rd => Sys2Proof.Machine.execCtrlrdFlags rd s
  | .ctrlwrFlags rs => Sys2Proof.Machine.execCtrlwrFlags rs s
  | .ctrlrdMirrorflags rd => Sys2Proof.Machine.execCtrlrdMirrorflags rd s
  | .ctrlwrMirrorflags rs => Sys2Proof.Machine.execCtrlwrMirrorflags rs s
  | .ctrlrdXaddr rd => Sys2Proof.Machine.execCtrlrdXaddr rd s
  | .ctrlwrXaddr rs => Sys2Proof.Machine.execCtrlwrXaddr rs s
  | .ctrlrdMirrorxaddr rd => Sys2Proof.Machine.execCtrlrdMirrorxaddr rd s
  | .ctrlwrMirrorxaddr rs => Sys2Proof.Machine.execCtrlwrMirrorxaddr rs s
  | .ctrlrdTimer0 rd => Sys2Proof.Machine.execCtrlrdTimer0 rd s
  | .ctrlwrTimer0 rs => Sys2Proof.Machine.execCtrlwrTimer0 rs s
  | .ctrlrdTimer1 rd => Sys2Proof.Machine.execCtrlrdTimer1 rd s
  | .ctrlwrTimer1 rs => Sys2Proof.Machine.execCtrlwrTimer1 rs s
  | .ctrlrdSystem0 rd => Sys2Proof.Machine.execCtrlrdSystem0 rd s
  | .ctrlwrSystem0 rs => Sys2Proof.Machine.execCtrlwrSystem0 rs s
  | .ctrlrdSystem1 rd => Sys2Proof.Machine.execCtrlrdSystem1 rd s
  | .ctrlwrSystem1 rs => Sys2Proof.Machine.execCtrlwrSystem1 rs s
  | .ctrlrdGpioaPins rd => Sys2Proof.Machine.execCtrlrdGpioaPins rd s
  | .ctrlwrGpioaPins rs => Sys2Proof.Machine.execCtrlwrGpioaPins rs s
  | .ctrlrdProcessors rd => Sys2Proof.Machine.execCtrlrdProcessors rd s
  | .ctrlwrProcessors rs => Sys2Proof.Machine.execCtrlwrProcessors rs s
  | .ctrlrdMmuX0 rd => Sys2Proof.Machine.execCtrlrdMmuX0 rd s
  | .ctrlwrMmuX0 rs => Sys2Proof.Machine.execCtrlwrMmuX0 rs s
  | .ctrlrdMmuX1 rd => Sys2Proof.Machine.execCtrlrdMmuX1 rd s
  | .ctrlwrMmuX1 rs => Sys2Proof.Machine.execCtrlwrMmuX1 rs s
  | .ctrlrdMmuX2 rd => Sys2Proof.Machine.execCtrlrdMmuX2 rd s
  | .ctrlwrMmuX2 rs => Sys2Proof.Machine.execCtrlwrMmuX2 rs s
  | .ctrlrdMmuX3 rd => Sys2Proof.Machine.execCtrlrdMmuX3 rd s
  | .ctrlwrMmuX3 rs => Sys2Proof.Machine.execCtrlwrMmuX3 rs s
  | .ctrlrdMmuX4 rd => Sys2Proof.Machine.execCtrlrdMmuX4 rd s
  | .ctrlwrMmuX4 rs => Sys2Proof.Machine.execCtrlwrMmuX4 rs s
  | .ctrlrdMmuX5 rd => Sys2Proof.Machine.execCtrlrdMmuX5 rd s
  | .ctrlwrMmuX5 rs => Sys2Proof.Machine.execCtrlwrMmuX5 rs s
  | .ctrlrdMmuX6 rd => Sys2Proof.Machine.execCtrlrdMmuX6 rd s
  | .ctrlwrMmuX6 rs => Sys2Proof.Machine.execCtrlwrMmuX6 rs s
  | .ctrlrdMmuX7 rd => Sys2Proof.Machine.execCtrlrdMmuX7 rd s
  | .ctrlwrMmuX7 rs => Sys2Proof.Machine.execCtrlwrMmuX7 rs s
  | .ctrlrdMmuY0 rd => Sys2Proof.Machine.execCtrlrdMmuY0 rd s
  | .ctrlwrMmuY0 rs => Sys2Proof.Machine.execCtrlwrMmuY0 rs s
  | .ctrlrdMmuY1 rd => Sys2Proof.Machine.execCtrlrdMmuY1 rd s
  | .ctrlwrMmuY1 rs => Sys2Proof.Machine.execCtrlwrMmuY1 rs s
  | .ctrlrdMmuY2 rd => Sys2Proof.Machine.execCtrlrdMmuY2 rd s
  | .ctrlwrMmuY2 rs => Sys2Proof.Machine.execCtrlwrMmuY2 rs s
  | .ctrlrdMmuY3 rd => Sys2Proof.Machine.execCtrlrdMmuY3 rd s
  | .ctrlwrMmuY3 rs => Sys2Proof.Machine.execCtrlwrMmuY3 rs s
  | .ctrlrdMmuY4 rd => Sys2Proof.Machine.execCtrlrdMmuY4 rd s
  | .ctrlwrMmuY4 rs => Sys2Proof.Machine.execCtrlwrMmuY4 rs s
  | .ctrlrdMmuY5 rd => Sys2Proof.Machine.execCtrlrdMmuY5 rd s
  | .ctrlwrMmuY5 rs => Sys2Proof.Machine.execCtrlwrMmuY5 rs s
  | .ctrlrdMmuY6 rd => Sys2Proof.Machine.execCtrlrdMmuY6 rd s
  | .ctrlwrMmuY6 rs => Sys2Proof.Machine.execCtrlwrMmuY6 rs s
  | .ctrlrdMmuY7 rd => Sys2Proof.Machine.execCtrlrdMmuY7 rd s
  | .ctrlwrMmuY7 rs => Sys2Proof.Machine.execCtrlwrMmuY7 rs s
  | .ctrlrdOverlord0 rd => Sys2Proof.Machine.execCtrlrdOverlord0 rd s
  | .ctrlwrOverlord0 rs => Sys2Proof.Machine.execCtrlwrOverlord0 rs s
  | .ctrlrdOverlord1 rd => Sys2Proof.Machine.execCtrlrdOverlord1 rd s
  | .ctrlwrOverlord1 rs => Sys2Proof.Machine.execCtrlwrOverlord1 rs s
  | .ctrlrdOverlord2 rd => Sys2Proof.Machine.execCtrlrdOverlord2 rd s
  | .ctrlwrOverlord2 rs => Sys2Proof.Machine.execCtrlwrOverlord2 rs s
  | .ctrlrdOverlord3 rd => Sys2Proof.Machine.execCtrlrdOverlord3 rd s
  | .ctrlwrOverlord3 rs => Sys2Proof.Machine.execCtrlwrOverlord3 rs s
  | .ctrlrdOverlord4 rd => Sys2Proof.Machine.execCtrlrdOverlord4 rd s
  | .ctrlwrOverlord4 rs => Sys2Proof.Machine.execCtrlwrOverlord4 rs s
  | .ctrlrdOverlord5 rd => Sys2Proof.Machine.execCtrlrdOverlord5 rd s
  | .ctrlwrOverlord5 rs => Sys2Proof.Machine.execCtrlwrOverlord5 rs s
  | .ctrlrdOverlord6 rd => Sys2Proof.Machine.execCtrlrdOverlord6 rd s
  | .ctrlwrOverlord6 rs => Sys2Proof.Machine.execCtrlwrOverlord6 rs s
  | .ctrlrdOverlord7 rd => Sys2Proof.Machine.execCtrlrdOverlord7 rd s
  | .ctrlwrOverlord7 rs => Sys2Proof.Machine.execCtrlwrOverlord7 rs s
  | .ctrlrdUnassigned rd cn => Sys2Proof.Machine.execCtrlrdUnassigned rd cn s
  | .ctrlwrUnassigned cn rs => Sys2Proof.Machine.execCtrlwrUnassigned cn rs s

end Sys2Proof.Machine
end

