-- ==== Sys2Proof/Machine/Mmu.lean ====
section
/-! DEFINITION. The Real-Time MMU (20_memory.md R60 to R67), and the data accesses of the wider instruction set that go through it (R8,
R52; no row of the table makes one, log 21). -/

namespace Sys2Proof.Machine

/-- The kinds of access that are translated (20_memory.md R52). -/
inductive AccessKind where
  | fetch
  | read
  | write
  | ioread
  | iowrite
deriving DecidableEq, Repr

/-- The access goes to the I/O bus (20_memory.md R52). -/
def AccessKind.isIo (k : AccessKind) : Bool :=
  match k with
  | .ioread | .iowrite => true
  | .fetch | .read | .write => false

/-- The exception kind of a failed access (20_memory.md R64, 60_exceptions.md R153, R154, D29). -/
def AccessKind.failure (k : AccessKind) : ExcKind :=
  match k with
  | .fetch => .fetch
  | .read | .write | .ioread | .iowrite => .bus

/-- The slot takes part in matching: it is enabled and its `io` flag agrees with the access (20_memory.md R61). -/
def slotApplies (x : Word) (k : AccessKind) : Bool :=
  slotEnabled x && slotIo x == k.isIo

/-- `base <= va and va < base + size`, as unbounded naturals (20_memory.md R61). -/
def slotCovers (x va : Word) : Bool :=
  (slotBase x).toNat ≤ va.toNat && va.toNat < (slotBase x).toNat + slotSize x

/-- `Match(n, va, kind)` for the slot whose X register is `x` (20_memory.md R61). -/
def slotMatches (x : Word) (k : AccessKind) (va : Word) : Bool :=
  slotApplies x k && slotCovers x va

/-- Both bases are multiples of the size: the condition under which the spec gives a slot a meaning (20_memory.md R61, D27). -/
def slotAligned (x y : Word) : Bool :=
  (slotBase x).toNat % slotSize x == 0 && (slotBase y).toNat % slotSize x == 0

/-- `LowestMatch(va, kind)` among the given slots, in their order (20_memory.md R62). A slot that applies and is not aligned is met
when the search comes to it (log 13). -/
def lowestMatchIn (s : State) (k : AccessKind) (va : Word) (slots : List (Fin 16)) :
    Except Stop (Option (Fin 16)) :=
  match slots with
  | [] => .ok none
  | n :: rest =>
    if slotApplies s.mmuX[n] k then
      if slotAligned s.mmuX[n] s.mmuY[n] then
        if slotCovers s.mmuX[n] va then .ok (some n) else lowestMatchIn s k va rest
      else .error (.refuse (.misalignedSlot n))
    else lowestMatchIn s k va rest

/-- The slots there are, in their order: 0 to `MMU_SLOTS - 1` (20_memory.md R69). -/
def slotList (p : Params) : List (Fin 16) :=
  [0, 1, 2, 3, 4, 5, 6, 7, 8, 9, 10, 11, 12, 13, 14, 15].take p.mmuSlots

/-- `LowestMatch(va, kind)` (20_memory.md R62, R69). -/
def lowestMatch (s : State) (k : AccessKind) (va : Word) : Except Stop (Option (Fin 16)) :=
  lowestMatchIn s k va (slotList s.params)

/-- `Permitted(X, kind)` (20_memory.md R63). -/
def permitted (s : State) (x : Word) (k : AccessKind) : Bool :=
  (!slotSystem x || flagSysmode s.flags) &&
    match k with
    | .read | .ioread => slotRead x
    | .write | .iowrite => slotWrite x
    | .fetch => slotInstr x

/-- `PhysAddr(n, va)` (20_memory.md R65). -/
def physAddr (s : State) (n : Fin 16) (va : Word) : Word :=
  toXlen s.params (slotBase s.mmuY[n] + (va - slotBase s.mmuX[n]))

/-- The slot an access of `size` bytes at `va` goes through with the MMU on: the lowest match, if it permits the access and holds
all of it (20_memory.md R60 to R65, D28). -/
def accessSlot (s : State) (k : AccessKind) (va : Word) (size : Nat) : Except Stop (Fin 16) :=
  match lowestMatch s k va with
  | .error e => .error e
  | .ok none => .error (.raise k.failure)
  | .ok (some n) =>
    if permitted s s.mmuX[n] k then
      if va.toNat + size ≤ (slotBase s.mmuX[n]).toNat + slotSize s.mmuX[n] then .ok n
      else .error (.refuse (.crossesSlotEnd n))
    else .error (.raise k.failure)

/-- `Translate(va, kind)` for an access of `size` bytes (20_memory.md R60, R65). -/
def translate (s : State) (k : AccessKind) (va : Word) (size : Nat) : Except Stop Word :=
  if flagMmuenable s.flags then
    match accessSlot s k va size with
    | .error e => .error e
    | .ok n => .ok (physAddr s n va)
  else .ok va

/-- The bus, or the I/O bus, answers an access at these physical addresses (60_exceptions.md R153, R154, I41; log 10). -/
def busAnswers (s : State) (k : AccessKind) (pa : Word) (size : Nat) : Bool :=
  avoidsHoles s.params (if k.isIo then s.params.ioHoles else s.params.busHoles) pa size

/-- The physical address of an access that its bus answers (60_exceptions.md R153, R154). -/
def busAccess (s : State) (k : AccessKind) (va : Word) (size : Nat) : Except Stop Word :=
  match translate s k va size with
  | .error e => .error e
  | .ok pa => if busAnswers s k pa size then .ok pa else .error (.raise k.failure)

/-- The address of a data or I/O access of `size` bytes is one the wider instruction set takes: it has no alignment rule, or the
address is a multiple of the size (20_memory.md R72, I33; log 8). -/
def dataAligned (s : State) (va : Word) (size : Nat) : Bool :=
  s.params.misalignedData.isNone || size ≤ 1 || va.toNat % size == 0

/-- The physical address of a data or I/O access: alignment, then translation and bus (20_memory.md R52, R60, R72; 60_exceptions.md
R154). An I/O access goes no further in the model, which gives the I/O bus no contents (log 21). -/
def dataAccess (s : State) (k : AccessKind) (va : Word) (size : Nat) : Except Stop Word :=
  match s.params.misalignedData, dataAligned s va size with
  | some c, false => .error (.raise (.other c))
  | _, _ => busAccess s k va size

/-- Bytes, the one at the lowest address first, as a number (20_memory.md R71). -/
def bytesValue (o : ByteOrder) (bytes : List Byte) : Nat :=
  match o with
  | .little => bytes.foldr (fun b v => b.toNat + 256 * v) 0
  | .big => bytes.foldl (fun v b => 256 * v + b.toNat) 0

/-- The `n` bytes of a value in the order they are stored (20_memory.md R71). -/
def valueBytes (o : ByteOrder) (n : Nat) (v : Word) : List Byte :=
  let little := (List.range n).map fun k => v.extractLsb' (8 * k) 8
  match o with
  | .little => little
  | .big => little.reverse

/-- A data read of `n` bytes at `va` (00_scope.md R8 `MemRead` behind `Translate`; 60_exceptions.md R154). -/
def loadData (s : State) (va : Word) (n : Nat) : Except Stop Nat :=
  match dataAccess s .read va n with
  | .error e => .error e
  | .ok pa =>
    match memReadBytes s pa 0 n with
    | .error f => .error (.fault f)
    | .ok bytes => .ok (bytesValue s.params.dataOrder bytes)

/-- A data write of the low `n` bytes of `v` at `va` (00_scope.md R8 `MemWrite` behind `Translate`; 60_exceptions.md R154). Fetches
read the same memory, so a later fetch sees the write: the spec leaves that open (20_memory.md R78, 91_not_in_source.md N17), and it
is the model's choice (DESIGN CHOICE, unsafe, log 30). -/
def storeData (s : State) (va : Word) (n : Nat) (v : Word) : Except Stop State :=
  match dataAccess s .write va n with
  | .error e => .error e
  | .ok pa => .ok (memWriteBytes s pa (valueBytes s.params.dataOrder n v))

/-- The outcome of an instruction that makes an access: the access stops it, with the exception entered at its own `pc`
(60_exceptions.md R154, R170), or the rest of the instruction goes on with what the access gave. No row of the table makes one (log
21). -/
def accessThen {α : Type} (a : Except Stop α) (s : State) (rest : α → Host.Outcome State Fault Refusal) :
    Host.Outcome State Fault Refusal :=
  match a with
  | .error e => stopOutcome e s
  | .ok v => rest v

end Sys2Proof.Machine
end

