-- ==== Sys2Proof/Machine/Fetch.lean ====
section
/-! DEFINITION. Fetching an instruction: steps 3 to 5 of a step (60_exceptions.md R168) and the decoding of the word. -/

namespace Sys2Proof.Machine

/-- The physical address of the instruction at `pc` (60_exceptions.md R153, R168 step 3; 20_memory.md R72; log 8). -/
def fetchAddr (s : State) : Except Stop Word :=
  match s.params.misalignedPc with
  | none => busAccess s .fetch s.pc 4
  | some c =>
    if s.pc.toNat % 4 = 0 then busAccess s .fetch s.pc 4 else .error (.raise (.other c))

/-- The word the decoder sees of four stored bytes: the base order, then `instrendswap` (20_memory.md R70). -/
def seenWord (s : State) (b0 b1 b2 b3 : Byte) : BitVec 32 :=
  let w := assembleWord s.params.instrBaseOrder b0 b1 b2 b3
  if flagInstrendswap s.flags then byteReverse w else w

/-- The word the decoder sees of the 4 bytes at physical address `pa`. -/
def wordAt (s : State) (pa : Word) : Except Fault (BitVec 32) := do
  let b0 ← memReadByte s pa 0
  let b1 ← memReadByte s pa 1
  let b2 ← memReadByte s pa 2
  let b3 ← memReadByte s pa 3
  return seenWord s b0 b1 b2 b3

/-- The instruction word at `pc` (60_exceptions.md R168 step 3). -/
def fetchWord (s : State) : Except Stop (BitVec 32) :=
  match fetchAddr s with
  | .error e => .error e
  | .ok pa =>
    match wordAt s pa with
    | .error f => .error (.fault f)
    | .ok w => .ok w

/-- The overlord check (60_exceptions.md R156): the instruction is overloaded and overlord mode is on. -/
def overloaded (s : State) (w : BitVec 32) : Bool :=
  flagOverlordenable s.flags && overlordBit s (Config.ovlIndex w)

/-- What a word that is no instruction of the model ends in (60_exceptions.md R159, I36; log 9). -/
def unimplementedStop (s : State) (e : DecodeError) : Stop :=
  match s.params.unimplemented with
  | some c => .raise (.other c)
  | none => .refuse (.unimplementedInstruction e)

/-- The instruction at `pc`, past the checks every instruction has: fetch, `remenable`, overlord, decoding
(40_ctrl_access.md R103 steps 1 to 3, 60_exceptions.md R168 steps 3 to 5). -/
def fetchInstr (s : State) : Except Stop Instr :=
  match fetchWord s with
  | .error e => .error e
  | .ok w =>
    if flagRemenable s.flags then .error (.refuse .riscEmulationMode)
    else if overloaded s w then .error (.raise .overlord)
    else
      match decodeWord w with
      | .ok i => .ok i
      | .error e => .error (unimplementedStop s e)

/-- The four bytes that make the fetch see the word `w`, the one at the lowest address first (20_memory.md R70). -/
def storedBytes (s : State) (w : BitVec 32) : List Byte :=
  splitWord s.params.instrBaseOrder (if flagInstrendswap s.flags then byteReverse w else w)

/-- The word `w` stored where the next step fetches; the state itself where that fetch does not reach memory. -/
def placeWord (s : State) (w : BitVec 32) : State :=
  match fetchAddr s with
  | .ok pa => memWriteBytes s pa (storedBytes s w)
  | .error _ => s

end Sys2Proof.Machine
end

