-- ==== Sys2Proof/Machine/Timer.lean ====
section
/-! DEFINITION. TIMER0's tick (60_exceptions.md R180 to R183) and the asynchronous exceptions (R161 to R167). -/

namespace Sys2Proof.Machine

/-- The count after this step's increment, modulo 2^XLEN (60_exceptions.md R180, R186). -/
def tickedCount (s : State) : Word :=
  toXlen s.params (s.timer0.count + 1)

/-- `alarm_now`: the incremented count equals the alarm threshold, and the alarm is enabled (60_exceptions.md R180, R182). -/
def alarmNow (s : State) : Bool :=
  s.timer0.alarmEn && tickedCount s == threshold s.timer0.alarmSh

/-- The incremented count equals the forget threshold, and forget is enabled (60_exceptions.md R180, R183). -/
def forgetNow (s : State) : Bool :=
  s.timer0.forgetEn && tickedCount s == threshold s.timer0.forgetSh

/-- `TimerTick` (60_exceptions.md R180). -/
def timerTick (s : State) : State :=
  { s with timer0 := { s.timer0 with
      count := if forgetNow s then 0 else tickedCount s
      dingdong := s.timer0.dingdong || alarmNow s } }

/-- `TimerReq`, in the state after the tick (60_exceptions.md R161, R168). -/
def timerRequest (alarm : Bool) (s : State) : Bool :=
  match s.params.asyncMode with
  | .edge => alarm
  | .level => s.timer0.dingdong

/-- The asynchronous exception taken at this boundary, if any: the timer's, then the hardware's, then the other processors'
(60_exceptions.md R166, R167, R168 step 2). -/
def asyncRequest (alarm : Bool) (s : State) : Option ExcKind :=
  if flagExcnenable s.flags then
    if timerRequest alarm s && flagTmxenable s.flags then some .timer
    else if s.inputs.hwReq && flagHwxenable s.flags then some .hw
    else if s.inputs.cpReq && flagCpxenable s.flags then some .cp
    else none
  else none

end Sys2Proof.Machine
end

