-- ==== Sys2Proof/Machine/Cycle.lean ====
section
/-! DEFINITION. The parts of a step (60_exceptions.md R168). -/

namespace Sys2Proof.Machine

/-- A step after its tick: an asynchronous exception is taken, or the instruction at `pc` is fetched and executed
(60_exceptions.md R168 steps 2 to 6). `alarm` is the tick's `alarm_now`. -/
def stepTicked (alarm : Bool) (s : State) : Host.Outcome State Fault Refusal :=
  match asyncRequest alarm s with
  | some k => raiseException k s
  | none =>
    match fetchInstr s with
    | .error e => stopOutcome e s
    | .ok i => exec i s

/-- A step's next state goes on to the environment's next sample (log 11). -/
def thenSample (o : Host.Outcome State Fault Refusal) : Host.Outcome State Fault Refusal :=
  match o with
  | .next t => .next (sampleInputs t)
  | .fault f => .fault f
  | .refused r => .refused r

/-- `Step` (60_exceptions.md R168): the tick, then the rest. -/
def coreCycle (s : State) : Host.Outcome State Fault Refusal :=
  thenSample (stepTicked (alarmNow s) (timerTick s))

end Sys2Proof.Machine
end

