-- ==== Sys2Proof/Machine/Step.lean ====
section
/-! DEFINITION. One step of the core (60_exceptions.md R168). -/

namespace Sys2Proof.Machine

/-- `Step` (60_exceptions.md R168). -/
def step (s : State) : Host.Outcome State Fault Refusal :=
  coreCycle s

/-- `s` with the instruction whose bits are the low `nbits` of `w` stored where its next step fetches (log 20). -/
def State.withFetchWord (s : State) (nbits w : Nat) : State :=
  placeWord s (tableWord nbits w)

end Sys2Proof.Machine
end

