-- ==== Sys2Proof/Safety.lean ====
section
/-! DEFINITION. The words claims use: legal states, accesses that pass their checks, the states instructions leave, safe
runs. -/

namespace Sys2Proof.Machine

/-! ## Legal states -/

/-- `v` is an `XLEN`-bit value (00_scope.md R8; log 3). -/
abbrev FitsXlen (p : Params) (v : Word) : Prop :=
  v.toNat < 2 ^ p.xlen.bits

/-- Every register of an MMU bank is an `XLEN`-bit value. -/
abbrev AllFit {n : Nat} (p : Params) (v : Vector Word n) : Prop :=
  ∀ r (h : r < n), FitsXlen p v[r]

/-- There are between 1 and 256 general registers (00_scope.md R4, I16; log 32) and between 1 and 16 slots (20_memory.md R69; log
29), the pin widths are between 1 and `XLEN` (R4, D25, D26), and `RESET_PC` is an `XLEN`-bit address (70_reset_and_hazards.md R201). -/
abbrev ParamsLegal (p : Params) : Prop :=
  (1 ≤ p.numGpr ∧ p.numGpr ≤ 256) ∧ FitsXlen p p.resetPc ∧
  (1 ≤ p.mmuSlots ∧ p.mmuSlots ≤ 16) ∧
  (1 ≤ p.gpioaWidth ∧ p.gpioaWidth ≤ p.xlen.bits) ∧ (1 ≤ p.procWidth ∧ p.procWidth ≤ p.xlen.bits)

/-- The legal states: as many general registers as `NUM_GPR` says, widths as the spec gives them, the reserved bits of both flags words
zero (10_state.md R17), memory in its canonical form and inside the address space. -/
structure State.Legal (s : State) : Prop where
  params : ParamsLegal s.params
  regsCount : s.regs.length = s.params.numGpr
  regs : ∀ v ∈ s.regs, FitsXlen s.params v
  pc : FitsXlen s.params s.pc
  excn : FitsXlen s.params s.excn
  flags : FitsXlen s.params s.flags
  flagsReserved : flagsReservedClear s.flags = true
  mirrorflags : FitsXlen s.params s.mirrorflags
  mirrorflagsReserved : flagsReservedClear s.mirrorflags = true
  xaddr : FitsXlen s.params s.xaddr
  mirrorxaddr : FitsXlen s.params s.mirrorxaddr
  count : FitsXlen s.params s.timer0.count
  system0 : FitsXlen s.params s.system0
  system1 : FitsXlen s.params s.system1
  gpioaOut : s.gpioaOut.toNat < 2 ^ s.params.gpioaWidth
  procOut : s.procOut.toNat < 2 ^ s.params.procWidth
  mmuX : AllFit s.params s.mmuX
  mmuY : AllFit s.params s.mmuY
  memForm : Memory.wf s.mem
  memSpace : ∀ c ∈ s.mem, c.1 < 2 ^ s.params.xlen.bits

/-! ## Accesses -/

/-- A read of control register `cn` into `x[rd]` passes the privilege and the register-protection check (40_ctrl_access.md R102,
60_exceptions.md R155). -/
abbrev ReadPasses (s : State) (rd cn : Nat) : Prop :=
  ctrlAllowed s cn .read = true ∧ regAccessible s rd = true

/-- A write of control register `cn` from `x[rs]` passes the same checks. -/
abbrev WritePasses (s : State) (rs cn : Nat) : Prop :=
  ctrlAllowed s cn .write = true ∧ regAccessible s rs = true

/-- No number is open to user mode: the default of `USER_CTRL_SAFE` (40_ctrl_access.md R102). -/
abbrev NoUserAccess (s : State) : Prop :=
  s.params.userCtrlSafe = []

/-- The address of the next instruction, `pc + 4` (10_state.md R34); modulo 2^XLEN, which at the top of the address space is the model's
choice (log 31). -/
abbrev nextPc (s : State) : Word :=
  toXlen s.params (s.pc + 4)

/-- An exception has somewhere to go: `XADDR` and `MIRRORFLAGS` have been written since reset (60_exceptions.md R171, I32). -/
abbrev EntryReady (s : State) : Prop :=
  entryReady s = true

/-- A mode switch has somewhere to go: `MIRRORFLAGS` and `MIRRORXADDR` have been written since reset (41_mode_switch.md R146). -/
abbrev ReturnReady (s : State) : Prop :=
  returnReady s = true

/-- The step takes the synchronous exception `k` at the instruction at `pc`: with exceptions on it enters it, `MIRRORXADDR` being that
instruction's address, or has no meaning before the handler is set (I32; log 15); with exceptions off it ends the run (60_exceptions.md
R165, R168, R170). -/
abbrev StepTakes (s : State) (k : ExcKind) : Prop :=
  (flagExcnenable s.flags = true → EntryReady s →
    ∃ t, step s = .next t ∧ t = sampleInputs (enterException k (timerTick s)) ∧ t.mirrorxaddr = s.pc) ∧
  (flagExcnenable s.flags = true → entryReady s = false → step s = .refused (.handlerUnset k)) ∧
  (flagExcnenable s.flags = false → step s = .fault (.exceptionsDisabled k))

/-- `TimerReq`, written out: at this step's tick the alarm occurred (`ASYNC_MODE` = `edge`), or dingdong is up after it (`level`)
(60_exceptions.md R161, R166, R168). -/
abbrev TimerRequested (s : State) : Prop :=
  (s.params.asyncMode = .edge ∧ s.timer0.alarmEn = true ∧
    (s.timer0.count.toNat + 1) % 2 ^ s.params.xlen.bits = 16 * 2 ^ s.timer0.alarmSh.toNat) ∨
  (s.params.asyncMode = .level ∧ (timerTick s).timer0.dingdong = true)

/-- `s` after `x[rd] <- v; pc <- pc + 4`, and nothing else. -/
abbrev afterRead (s : State) (rd : Nat) (v : Word) : State :=
  { s with regs := s.regs.set rd v, pc := nextPc s }

/-! ## Instructions by what they name -/

/-- The general register, the control-register number and the direction of a control-register access; nothing for
`MODESWITCH`. -/
def accessOf (i : Instr) : Option (Nat × Nat × Dir) :=
  let f := instrFields i
  if f.opcode = opModeswitch then none
  else if f.opcode = opCtrlrd ∨ f.opcode = opCtrlrdForm then some (f.reg, f.cn, .read)
  else some (f.reg, f.cn, .write)

/-! ## The bit that is only an output -/

/-- `s` with `FLAGS.critical` the other way (10_state.md R14). -/
def flipCritical (s : State) : State :=
  { s with flags := s.flags ^^^ 0x20 }

/-- The outcomes are of one kind, for one reason, and their states are the same but for bit 5, `critical`, of the flags pair. -/
def SameButCritical (o q : Host.Outcome State Fault Refusal) : Prop :=
  match o with
  | .next u =>
    ∃ f m, (f = u.flags ∨ f = u.flags ^^^ 0x20) ∧ (m = u.mirrorflags ∨ m = u.mirrorflags ^^^ 0x20) ∧
      q = .next { u with flags := f, mirrorflags := m }
  | .fault e => q = .fault e
  | .refused r => q = .refused r

/-! ## Safe runs -/

/-- The step goes on to a next state: neither the error state of 60_exceptions.md R165 nor a case without meaning. -/
def State.Runs (s : State) : Prop :=
  ∃ t, step s = .next t

/-- What must hold whenever exceptions are enabled (60_exceptions.md R171, 70_reset_and_hazards.md R203): the handler's flags are
system-mode flags with exceptions off. -/
abbrev State.HandlerReady (s : State) : Prop :=
  flagSysmode s.mirrorflags = true ∧ flagExcnenable s.mirrorflags = false

end Sys2Proof.Machine
end

