-- ==== Sys2Proof/Certificates/Slice0/Obligations.lean ====
section
/-! DEFINITION. What is claimed of the model, each with the rule of spec/ it comes from. Where a statement rests on one of
the spec's own decisions (92_eei_decisions.md) or on a choice of the model, its docstring says so. -/

open Sys2Proof Sys2Proof.Machine

/-! ## Words and fetching -/

/-- Every well-formed instruction is what its stored bytes decode to, in either byte order. The layout of the word is the
model's choice (log 1); the number of bytes is 30_encoding.md R80's. -/
def Obligations.DecodeOfEncodedInstruction : Prop :=
  ∀ (o : ByteOrder) (i : Instr), i.WellFormed → decodeBytes o (encodeBytes o i) = .ok i

/-- A word that decodes is the encoding of the well-formed instruction it decodes to: no two words share an instruction, and no
bit of a word is ignored. The layout of the word is the model's choice (log 1). -/
def Obligations.DecodedWordsReencode : Prop :=
  ∀ (w : BitVec 32) (i : Instr), decodeWord w = .ok i → i.WellFormed ∧ encode i = w

/-- Words written out from the layout of log 1 (the spec has none) decode to the instructions they stand for. -/
def Obligations.SampleWordsDecode : Prop :=
  decodeWord 0b00000001_00000101_0000000000000010#32 = .ok (.ctrlrd 5 2) ∧
  decodeWord 0b00000010_00000011_0000000000001000#32 = .ok (.ctrlwr 8 3) ∧
  decodeWord 0b00000011_00000000_0000000000000000#32 = .ok .modeswitch ∧
  decodeWord 0b00010001_00000001_0000000000000000#32 = .ok (.ctrlrdCpuid 1) ∧
  decodeWord 0b00010010_00000010_0000000000110111#32 = .ok (.ctrlwrOverlord7 2) ∧
  decodeWord 0b00010001_00000001_0000000000111000#32 = .ok (.ctrlrdUnassigned 1 0x38)

/-- The word the decoder sees has the stored bytes in the base order, and in the opposite order when `instrendswap` is set
(20_memory.md R70; the reading is the spec's decision D35). -/
def Obligations.InstrendswapReversesTheBytes : Prop :=
  ∀ (s : State) (b0 b1 b2 b3 : Byte),
    seenWord s b0 b1 b2 b3 =
      match s.params.instrBaseOrder, flagInstrendswap s.flags with
      | .little, false | .big, true => b3 ++ b2 ++ b1 ++ b0
      | .little, true | .big, false => b0 ++ b1 ++ b2 ++ b3

/-- A word placed where the next fetch goes is the word that fetch sees; nothing but those four bytes changes. (The loading of
a program from outside, log 20.) -/
def Obligations.PlacedWordIsFetched : Prop :=
  ∀ (s : State) (pa : Word) (nbits w : Nat), fetchAddr s = .ok pa →
    fetchWord (s.withFetchWord nbits w) = .ok (BitVec.ofNat 32 (w % 2 ^ nbits)) ∧
    (∀ a, (∀ k, k < 4 → a ≠ byteAddr s.params pa k) →
      memRead (s.withFetchWord nbits w).mem a = memRead s.mem a) ∧
    { s.withFetchWord nbits w with mem := s.mem } = s

/-- Where no asynchronous exception is taken and the four bytes at the address of `pc` decode to `i`, no check of the word
stopping it, the step after its tick is `exec i`, then the environment's next sample (60_exceptions.md R168; the order is the
spec's decision D16, D22; the sample is log 11). -/
def Obligations.StepRunsDecodedInstruction : Prop :=
  ∀ (s : State) (pa : Word) (b0 b1 b2 b3 : Byte) (i : Instr),
    asyncRequest (alarmNow s) (timerTick s) = none →
    fetchAddr s = .ok pa →
    memRead s.mem (byteAddr s.params pa 0) = some b0 → memRead s.mem (byteAddr s.params pa 1) = some b1 →
    memRead s.mem (byteAddr s.params pa 2) = some b2 → memRead s.mem (byteAddr s.params pa 3) = some b3 →
    flagRemenable s.flags = false →
    overloaded s (seenWord s b0 b1 b2 b3) = false →
    decodeWord (seenWord s b0 b1 b2 b3) = .ok i →
    i.WellFormed →
    step s =
      match exec i (timerTick s) with
      | .next t => .next { t with inputs := Config.drawInputs t.draws, draws := t.draws + 1 }
      | .fault f => .fault f
      | .refused r => .refused r

/-- An instruction fetched with `remenable` set has no meaning, whatever it is (30_encoding.md R90, the spec's decision D36). -/
def Obligations.RiscEmulationIsRefused : Prop :=
  ∀ (s : State) (w : BitVec 32), asyncRequest (alarmNow s) (timerTick s) = none → fetchWord s = .ok w →
    flagRemenable s.flags = true → step s = .refused .riscEmulationMode

/-- A word that is no instruction raises the wider instruction set's exception for it, if that set has one, which ends the run with
exceptions off, and has no meaning otherwise (93_implementation_defined.md I36, 60_exceptions.md R159, R165; the spec's decision D14;
that the parameter decides is log 9, that an entry before the handler is set has no meaning I32 and log 15). -/
def Obligations.UnimplementedWordStops : Prop :=
  ∀ (s : State) (w : BitVec 32) (e : DecodeError), asyncRequest (alarmNow s) (timerTick s) = none →
    fetchWord s = .ok w → flagRemenable s.flags = false → overloaded s w = false → decodeWord w = .error e →
    (s.params.unimplemented = none → step s = .refused (.unimplementedInstruction e)) ∧
    (∀ c, s.params.unimplemented = some c →
      (flagExcnenable s.flags = true → EntryReady s →
        step s = .next (sampleInputs (enterException (.other c) (timerTick s)))) ∧
      (flagExcnenable s.flags = false → step s = .fault (.exceptionsDisabled (.other c))))

/-! ## Exceptions -/

/-- Exception entry writes `EXCN`, `MIRRORXADDR`, the flags pair, `pc` and, for the timer, dingdong, and nothing else
(60_exceptions.md R170, the spec's decision D13; that `MIRRORXADDR` counts as written from then on is log 15). Raising an exception
enters it with exceptions on, ends the run with exceptions off (R165, D14), and has no meaning while `XADDR` or `MIRRORFLAGS` still
holds its unspecified reset value (I32). -/
def Obligations.ExceptionEntryEffect : Prop :=
  ∀ (k : ExcKind) (s : State),
    enterException k s =
      { s with
        excn := toXlen s.params (Config.excCode k)
        mirrorxaddr := s.pc
        flags := s.mirrorflags
        mirrorflags := s.flags
        timer0 := if k = .timer then { s.timer0 with dingdong := false } else s.timer0
        pc := s.xaddr
        written := { s.written with mirrorxaddr := true } } ∧
    (flagExcnenable s.flags = true → s.written.xaddr = true → s.written.mirrorflags = true →
      raiseException k s = .next (enterException k s)) ∧
    (flagExcnenable s.flags = true → (s.written.xaddr = false ∨ s.written.mirrorflags = false) →
      raiseException k s = .refused (.handlerUnset k)) ∧
    (flagExcnenable s.flags = false → raiseException k s = .fault (.exceptionsDisabled k))

/-- All kinds go to the one address in `XADDR`, however they are taken, and the handler reads the kind's number from
`CTRL_EXCN`. -/
def Obligations.OneExceptionEntryPoint : Prop :=
  ∀ (k : ExcKind) (s t : State),
    (raiseException k s = .next t ∨ (asyncRequest (alarmNow s) (timerTick s) = some k ∧ step s = .next t)) →
    t.pc = s.xaddr ∧ ctrlRead .excn t = toXlen s.params (Config.excCode k)

/-- In user mode every instruction of the table takes the privilege exception, but for a control-register access that
`USER_CTRL_SAFE` opens to user mode; with exceptions off it ends the run, and before the handler is set it has no meaning
(40_ctrl_access.md R102, 41_mode_switch.md R141, I32; the spec's decisions D11, D14, D37; log 15). -/
def Obligations.UserModeInstructionsTrap : Prop :=
  ∀ (i : Instr) (s : State), flagSysmode s.flags = false →
    (∀ r cn dir, accessOf i = some (r, cn, dir) → (cn, dir) ∉ s.params.userCtrlSafe) →
    (flagExcnenable s.flags = true → EntryReady s → exec i s = .next (enterException .priv s)) ∧
    (flagExcnenable s.flags = true → entryReady s = false → exec i s = .refused (.handlerUnset .priv)) ∧
    (flagExcnenable s.flags = false → exec i s = .fault (.exceptionsDisabled .priv))

/-- An access the mode allows that names a register above `regprot` or one there is not (`NUM_GPR` and above, log 32) takes the
register-protection exception, which leaves every register as it is, ends the run where exceptions are off and has no meaning before
the handler is set (60_exceptions.md R155, I32; the order of the checks is the spec's decision D16, D34, the end of the run D14; log
15). -/
def Obligations.ProtectedRegisterTraps : Prop :=
  ∀ (i : Instr) (s : State) (r cn : Nat) (dir : Dir), accessOf i = some (r, cn, dir) →
    ctrlAllowed s cn dir = true → (flagRegprot s.flags < r ∨ s.params.numGpr ≤ r) →
    (flagExcnenable s.flags = true → EntryReady s →
      ∃ t, exec i s = .next t ∧ t = enterException .regprot s ∧ t.regs = s.regs) ∧
    (flagExcnenable s.flags = true → entryReady s = false → exec i s = .refused (.handlerUnset .regprot)) ∧
    (flagExcnenable s.flags = false → exec i s = .fault (.exceptionsDisabled .regprot))

/-- With overlord mode on, an instruction whose bit is set takes the overlord exception instead of its action, implemented or
not (60_exceptions.md R156; its place in the step is the spec's decision D33). -/
def Obligations.OverloadedInstructionTraps : Prop :=
  ∀ (s : State) (w : BitVec 32), asyncRequest (alarmNow s) (timerTick s) = none → fetchWord s = .ok w →
    flagRemenable s.flags = false → flagOverlordenable s.flags = true →
    overlordBit s (Config.ovlIndex w) = true →
    (flagExcnenable s.flags = true → EntryReady s →
      step s = .next (sampleInputs (enterException .overlord (timerTick s)))) ∧
    (flagExcnenable s.flags = false → step s = .fault (.exceptionsDisabled .overlord))

/-- A step whose fetch fails takes the exception of that failure, with `MIRRORXADDR` the address whose fetch failed: the fetch exception
where the MMU is on and no slot covers the address, or the lowest match is a slot without `instr`, or a system slot in user mode, and
where the bus fails the fetch; and whatever other exception a fetch raises (60_exceptions.md R153, R165, 20_memory.md R63, R64; the
spec's decisions D14, D16, D29). Which fetches the bus fails is log 10; that the wider set's exception is raised for a `pc` its alignment
rule forbids log 8; that the fetch does not meet misaligned slots that are for I/O alone log 13; what holds before the handler is set I32
and log 15. -/
def Obligations.UnmappedFetchTraps : Prop :=
  ∀ (s : State), asyncRequest (alarmNow s) (timerTick s) = none →
    ((s.params.misalignedPc = none ∨ s.pc.toNat % 4 = 0) →
      (flagMmuenable s.flags = true →
        (∀ n : Fin 16, n.val < s.params.mmuSlots → slotApplies s.mmuX[n] .fetch = true →
          slotAligned s.mmuX[n] s.mmuY[n] = true ∧ slotCovers s.mmuX[n] s.pc = false) →
        StepTakes s .fetch) ∧
      (∀ n : Fin 16, flagMmuenable s.flags = true → lowestMatch s .fetch s.pc = .ok (some n) →
        (slotInstr s.mmuX[n] = false ∨ (slotSystem s.mmuX[n] = true ∧ flagSysmode s.flags = false)) →
        StepTakes s .fetch) ∧
      (∀ pa, translate s .fetch s.pc 4 = .ok pa → busAnswers s .fetch pa 4 = false → StepTakes s .fetch)) ∧
    (∀ c, s.params.misalignedPc = some c → s.pc.toNat % 4 ≠ 0 → StepTakes s (.other c)) ∧
    (∀ k, fetchAddr s = .error (.raise k) → StepTakes s k)

/-- The system-call instruction's exception records the address of that instruction itself (60_exceptions.md R158). -/
def Obligations.SystemCallTakesException : Prop :=
  ∀ (s : State), flagExcnenable s.flags = true → EntryReady s →
    ∃ t, systemCall s = .next t ∧ t.mirrorxaddr = s.pc ∧ t.pc = s.xaddr ∧
      t.excn = toXlen s.params (Config.excCode .syscall) ∧ t.flags = s.mirrorflags ∧ t.mirrorflags = s.flags ∧
      t.regs = s.regs ∧ t.mem = s.mem

/-- At a boundary with exceptions enabled, the timer's request is taken first, then the hardware's, then the other processors', each only
if its own enable is set (60_exceptions.md R161 to R163, R168; the order is the spec's decision D16). The timer requests by `ASYNC_MODE`,
D15: with `edge` when the alarm occurred at this step's tick, with `level` as long as dingdong is up. -/
def Obligations.AsynchronousPriority : Prop :=
  ∀ (s : State), flagExcnenable s.flags = true → EntryReady s →
    let timer := TimerRequested s ∧ flagTmxenable s.flags = true
    let hw := s.inputs.hwReq = true ∧ flagHwxenable s.flags = true
    let cp := s.inputs.cpReq = true ∧ flagCpxenable s.flags = true
    (timer → step s = .next (sampleInputs (enterException .timer (timerTick s)))) ∧
    (¬ timer → hw → step s = .next (sampleInputs (enterException .hw (timerTick s)))) ∧
    (¬ timer → ¬ hw → cp → step s = .next (sampleInputs (enterException .cp (timerTick s)))) ∧
    (¬ timer → ¬ hw → ¬ cp → asyncRequest (alarmNow s) (timerTick s) = none)

/-- An asynchronous exception is taken only where it is requested, `excnenable` is set and its own enable is set; what requests the
timer's is `ASYNC_MODE`'s to say: the alarm at this step's tick, or dingdong (60_exceptions.md R161 to R163, R166; the reading is the
spec's decision D15). -/
def Obligations.DisabledRequestsAreNotTaken : Prop :=
  ∀ (s : State) (k : ExcKind), asyncRequest (alarmNow s) (timerTick s) = some k →
    flagExcnenable s.flags = true ∧
    ((k = .timer ∧ flagTmxenable s.flags = true ∧ TimerRequested s) ∨
      (k = .hw ∧ flagHwxenable s.flags = true ∧ s.inputs.hwReq = true) ∨
      (k = .cp ∧ flagCpxenable s.flags = true ∧ s.inputs.cpReq = true))

/-- The entry for a timer exception clears dingdong, so that the handler reads it as 0. -/
def Obligations.TimerEntryClearsDingdong : Prop :=
  ∀ (s : State), asyncRequest (alarmNow s) (timerTick s) = some .timer → EntryReady s →
    ∃ t, step s = .next t ∧ t.timer0.dingdong = false ∧ (ctrlRead .timer0 t).getLsbD 0 = false

/-- A second exception before the handler has saved anything loses the first one's address and number, and gives the
interrupted code's flags back to the handler (60_exceptions.md R174). -/
def Obligations.NestedExceptionLosesTheFirst : Prop :=
  ∀ (k1 k2 : ExcKind) (s : State),
    let t := enterException k1 s
    let u := enterException k2 t
    u.flags = s.flags ∧ u.mirrorflags = s.mirrorflags ∧ u.mirrorxaddr = s.xaddr ∧ u.pc = s.xaddr ∧
      u.excn = toXlen s.params (Config.excCode k2)

/-! ## `MODESWITCH` -/

/-- In system mode `MODESWITCH` exchanges the flags registers, continues at `MIRRORXADDR` and changes nothing else; while
`MIRRORFLAGS` or `MIRRORXADDR` still holds its unspecified reset value it has no meaning (41_mode_switch.md R140, R145, R146; the
spec's decision D12; what counts as written is log 15). -/
def Obligations.ModeSwitchEffect : Prop :=
  ∀ (s : State), flagSysmode s.flags = true →
    (s.written.mirrorflags = true → s.written.mirrorxaddr = true →
      exec .modeswitch s =
        .next { s with flags := s.mirrorflags, mirrorflags := s.flags, pc := s.mirrorxaddr }) ∧
    (s.written.mirrorflags = false ∨ s.written.mirrorxaddr = false → exec .modeswitch s = .refused .modeSwitchUnset)

/-- A `MODESWITCH` in a handler entered with system-mode flags gives back the interrupted flags and address; only `EXCN`,
`MIRRORXADDR` and a timer exception's dingdong still show the exception (41_mode_switch.md R142; the spec's decisions D12, D13), and
that `MIRRORXADDR` has been written (log 15). -/
def Obligations.HandlerReturnsToInterruptedCode : Prop :=
  ∀ (k : ExcKind) (s : State), flagSysmode s.mirrorflags = true → s.written.mirrorflags = true →
    ∃ t, exec .modeswitch (enterException k s) = .next t ∧
      (k ≠ .timer → t.timer0.dingdong = s.timer0.dingdong) ∧
      { t with
        excn := s.excn
        mirrorxaddr := s.mirrorxaddr
        timer0 := { t.timer0 with dingdong := s.timer0.dingdong }
        written := { t.written with mirrorxaddr := s.written.mirrorxaddr } } = s

/-! ## Reading control registers -/

/-- Reading `CTRL_XADDR` gives `XADDR`, the address an exception jumps to; only the destination and `pc` change. `pc` past the last
address is log 31's. -/
def Obligations.ReadOfExceptionAddress : Prop :=
  ∀ (s : State) (rd : Nat), ReadPasses s rd 4 →
    exec (.ctrlrdXaddr rd) s = .next (afterRead s rd s.xaddr) ∧ ∀ k, (enterException k s).pc = s.xaddr

/-- Reading `CTRL_EXCN`, `CTRL_FLAGS`, `CTRL_MIRRORFLAGS`, `CTRL_MIRRORXADDR`, `CTRL_SYSTEM0` and `CTRL_SYSTEM1` gives the register;
only the destination and `pc` change (40_ctrl_access.md R106, R108, R110, R114, R119; the operation is the spec's, D11). `pc` past
the last address is log 31's. -/
def Obligations.ReadOfStoredRegisters : Prop :=
  (∀ (s : State) (rd : Nat), ReadPasses s rd 1 → exec (.ctrlrdExcn rd) s = .next (afterRead s rd s.excn)) ∧
  (∀ (s : State) (rd : Nat), ReadPasses s rd 2 → exec (.ctrlrdFlags rd) s = .next (afterRead s rd s.flags)) ∧
  (∀ (s : State) (rd : Nat), ReadPasses s rd 3 → exec (.ctrlrdMirrorflags rd) s = .next (afterRead s rd s.mirrorflags)) ∧
  (∀ (s : State) (rd : Nat), ReadPasses s rd 5 → exec (.ctrlrdMirrorxaddr rd) s = .next (afterRead s rd s.mirrorxaddr)) ∧
  (∀ (s : State) (rd : Nat), ReadPasses s rd 8 → exec (.ctrlrdSystem0 rd) s = .next (afterRead s rd s.system0)) ∧
  (∀ (s : State) (rd : Nat), ReadPasses s rd 9 → exec (.ctrlrdSystem1 rd) s = .next (afterRead s rd s.system1))

/-- Reading `CTRL_CPUID` gives the constant, of which a 32-bit implementation has the low half (40_ctrl_access.md R104, 20_memory.md
R69; the spec's decisions D2, D3, D4; how many registers it counts is the parameter `NUM_GPR`, I16, log 32); only the destination
and `pc` change. `pc` past the last address is log 31's. -/
def Obligations.ReadOfCpuid : Prop :=
  ∀ (s : State) (rd : Nat), ReadPasses s rd 0 →
    exec (.ctrlrdCpuid rd) s =
      .next (afterRead s rd
        (match s.params.xlen with
         | .x32 => 0#32 ++ s.params.cpuidByte3 ++ BitVec.ofNat 8 (s.params.mmuSlots - 1) ++ 0x01#8 ++
             BitVec.ofNat 8 (s.params.numGpr - 1)
         | .x64 => s.params.signature ++ s.params.cpuidByte3 ++ BitVec.ofNat 8 (s.params.mmuSlots - 1) ++ 0x01#8 ++
             BitVec.ofNat 8 (s.params.numGpr - 1)))

/-- Reading `CTRL_TIMER0` gives the count without its low 8 bits, with dingdong in bit 0 (40_ctrl_access.md R116; the spec's
decision D20); only the destination and `pc` change. `pc` past the last address is log 31's. -/
def Obligations.ReadOfTimer : Prop :=
  ∀ (s : State) (rd : Nat), ReadPasses s rd 6 →
    exec (.ctrlrdTimer0 rd) s =
      .next (afterRead s rd ((s.timer0.count &&& ~~~0xFF#64) ||| (if s.timer0.dingdong then 1#64 else 0#64)))

/-- Reading `CTRL_GPIOA_PINS` or `CTRL_PROCESSORS` gives the levels the environment presents on the pins there are, whatever they
are (40_ctrl_access.md R121, R123; the spec's decisions D25, D26); only the destination and `pc` change. `pc` past the last address
is log 31's. -/
def Obligations.ReadOfPins : Prop :=
  ∀ (s : State) (rd : Nat), ParamsLegal s.params →
    (ReadPasses s rd 0xA → ∃ v, exec (.ctrlrdGpioaPins rd) s = .next (afterRead s rd v) ∧
      v.toNat = s.inputs.gpioaPins.toNat % 2 ^ s.params.gpioaWidth) ∧
    (ReadPasses s rd 0xF → ∃ v, exec (.ctrlrdProcessors rd) s = .next (afterRead s rd v) ∧
      v.toNat = s.inputs.procPins.toNat % 2 ^ s.params.procWidth)

/-- Reading the register of an MMU slot there is gives all its bits; only the destination and `pc` change. `pc` past the last
address is log 31's. -/
def Obligations.ReadOfMmuRegisters : Prop :=
  (∀ (s : State) (rd : Nat), 0 < s.params.mmuSlots → ReadPasses s rd 0x10 →
    exec (.ctrlrdMmuX0 rd) s = .next (afterRead s rd s.mmuX[0])) ∧
  (∀ (s : State) (rd : Nat), 1 < s.params.mmuSlots → ReadPasses s rd 0x11 →
    exec (.ctrlrdMmuX1 rd) s = .next (afterRead s rd s.mmuX[1])) ∧
  (∀ (s : State) (rd : Nat), 2 < s.params.mmuSlots → ReadPasses s rd 0x12 →
    exec (.ctrlrdMmuX2 rd) s = .next (afterRead s rd s.mmuX[2])) ∧
  (∀ (s : State) (rd : Nat), 3 < s.params.mmuSlots → ReadPasses s rd 0x13 →
    exec (.ctrlrdMmuX3 rd) s = .next (afterRead s rd s.mmuX[3])) ∧
  (∀ (s : State) (rd : Nat), 4 < s.params.mmuSlots → ReadPasses s rd 0x14 →
    exec (.ctrlrdMmuX4 rd) s = .next (afterRead s rd s.mmuX[4])) ∧
  (∀ (s : State) (rd : Nat), 5 < s.params.mmuSlots → ReadPasses s rd 0x15 →
    exec (.ctrlrdMmuX5 rd) s = .next (afterRead s rd s.mmuX[5])) ∧
  (∀ (s : State) (rd : Nat), 6 < s.params.mmuSlots → ReadPasses s rd 0x16 →
    exec (.ctrlrdMmuX6 rd) s = .next (afterRead s rd s.mmuX[6])) ∧
  (∀ (s : State) (rd : Nat), 7 < s.params.mmuSlots → ReadPasses s rd 0x17 →
    exec (.ctrlrdMmuX7 rd) s = .next (afterRead s rd s.mmuX[7])) ∧
  (∀ (s : State) (rd : Nat), 0 < s.params.mmuSlots → ReadPasses s rd 0x20 →
    exec (.ctrlrdMmuY0 rd) s = .next (afterRead s rd s.mmuY[0])) ∧
  (∀ (s : State) (rd : Nat), 1 < s.params.mmuSlots → ReadPasses s rd 0x21 →
    exec (.ctrlrdMmuY1 rd) s = .next (afterRead s rd s.mmuY[1])) ∧
  (∀ (s : State) (rd : Nat), 2 < s.params.mmuSlots → ReadPasses s rd 0x22 →
    exec (.ctrlrdMmuY2 rd) s = .next (afterRead s rd s.mmuY[2])) ∧
  (∀ (s : State) (rd : Nat), 3 < s.params.mmuSlots → ReadPasses s rd 0x23 →
    exec (.ctrlrdMmuY3 rd) s = .next (afterRead s rd s.mmuY[3])) ∧
  (∀ (s : State) (rd : Nat), 4 < s.params.mmuSlots → ReadPasses s rd 0x24 →
    exec (.ctrlrdMmuY4 rd) s = .next (afterRead s rd s.mmuY[4])) ∧
  (∀ (s : State) (rd : Nat), 5 < s.params.mmuSlots → ReadPasses s rd 0x25 →
    exec (.ctrlrdMmuY5 rd) s = .next (afterRead s rd s.mmuY[5])) ∧
  (∀ (s : State) (rd : Nat), 6 < s.params.mmuSlots → ReadPasses s rd 0x26 →
    exec (.ctrlrdMmuY6 rd) s = .next (afterRead s rd s.mmuY[6])) ∧
  (∀ (s : State) (rd : Nat), 7 < s.params.mmuSlots → ReadPasses s rd 0x27 →
    exec (.ctrlrdMmuY7 rd) s = .next (afterRead s rd s.mmuY[7]))

/-- Reading an overlord register gives its 32 bits, zero-extended (40_ctrl_access.md R129; the spec's decision D32); only the
destination and `pc` change. `pc` past the last address is log 31's. -/
def Obligations.ReadOfOverlordRegisters : Prop :=
  (∀ (s : State) (rd : Nat), ReadPasses s rd 0x30 → exec (.ctrlrdOverlord0 rd) s = .next (afterRead s rd (0#32 ++ s.overlord[0]))) ∧
  (∀ (s : State) (rd : Nat), ReadPasses s rd 0x31 → exec (.ctrlrdOverlord1 rd) s = .next (afterRead s rd (0#32 ++ s.overlord[1]))) ∧
  (∀ (s : State) (rd : Nat), ReadPasses s rd 0x32 → exec (.ctrlrdOverlord2 rd) s = .next (afterRead s rd (0#32 ++ s.overlord[2]))) ∧
  (∀ (s : State) (rd : Nat), ReadPasses s rd 0x33 → exec (.ctrlrdOverlord3 rd) s = .next (afterRead s rd (0#32 ++ s.overlord[3]))) ∧
  (∀ (s : State) (rd : Nat), ReadPasses s rd 0x34 → exec (.ctrlrdOverlord4 rd) s = .next (afterRead s rd (0#32 ++ s.overlord[4]))) ∧
  (∀ (s : State) (rd : Nat), ReadPasses s rd 0x35 → exec (.ctrlrdOverlord5 rd) s = .next (afterRead s rd (0#32 ++ s.overlord[5]))) ∧
  (∀ (s : State) (rd : Nat), ReadPasses s rd 0x36 → exec (.ctrlrdOverlord6 rd) s = .next (afterRead s rd (0#32 ++ s.overlord[6]))) ∧
  (∀ (s : State) (rd : Nat), ReadPasses s rd 0x37 → exec (.ctrlrdOverlord7 rd) s = .next (afterRead s rd (0#32 ++ s.overlord[7])))

/-- A read of a numbered control register that passes its checks writes the register's read view to the destination; the destination then
reads as that value, in every state that has the registers its parameters say, and every other register as before
(40_ctrl_access.md R100; the operation is the spec's, D11; the number of registers is log 32's). `pc` past the last address is log 31's. -/
def Obligations.NumberedReadCompletes : Prop :=
  ∀ (s : State) (rd cn : Nat) (reg : CtrlReg), ReadPasses s rd cn → ctrlRegOf s.params cn = some reg →
    exec (.ctrlrd rd cn) s = .next (afterRead s rd (ctrlRead reg s)) ∧
    (s.regs.length = s.params.numGpr → readReg (afterRead s rd (ctrlRead reg s)) rd = ctrlRead reg s) ∧
    ∀ r, r ≠ rd → readReg (afterRead s rd (ctrlRead reg s)) r = readReg s r

/-- The control-register numbers and no others have a register; how many slots have one is the parameter `MMU_SLOTS` (10_state.md R10,
R32; 30_encoding.md R86, R87; 20_memory.md R69; log 29). -/
def Obligations.ControlRegisterNumbers : Prop :=
  ∀ (p : Params) (cn : Nat) (reg : CtrlReg),
    ctrlRegOf p cn = some reg ↔
      (cn = 0 ∧ reg = .cpuid) ∨ (cn = 1 ∧ reg = .excn) ∨ (cn = 2 ∧ reg = .flags) ∨ (cn = 3 ∧ reg = .mirrorflags) ∨
      (cn = 4 ∧ reg = .xaddr) ∨ (cn = 5 ∧ reg = .mirrorxaddr) ∨ (cn = 6 ∧ reg = .timer0) ∨ (cn = 8 ∧ reg = .system0) ∨
      (cn = 9 ∧ reg = .system1) ∨ (cn = 0xA ∧ reg = .gpioaPins) ∨ (cn = 0xF ∧ reg = .processors) ∨
      (∃ n : Fin 16, n.val < p.mmuSlots ∧
        ((cn = 0x10 + n.val ∧ reg = .mmuX n) ∨ (cn = 0x20 + n.val ∧ reg = .mmuY n))) ∨
      (∃ n : Fin 8, cn = 0x30 + n.val ∧ reg = .overlord n)

/-! ## Writing control registers -/

/-- Writing `CTRL_XADDR` stores the value, and any exception taken from there goes to it (40_ctrl_access.md R113; the operation is
the spec's, D11); only `XADDR`, the model's note that it has been written (DEDUCED, log 15) and `pc` change. `pc` past the last
address is log 31's. -/
def Obligations.WriteOfExceptionAddress : Prop :=
  ∀ (s : State) (rs : Nat), WritePasses s rs 4 →
    ∃ t, exec (.ctrlwrXaddr rs) s = .next t ∧
      t = { s with xaddr := readReg s rs, written := { s.written with xaddr := true }, pc := nextPc s } ∧
      ∀ k, (enterException k t).pc = readReg s rs

/-- Writing `CTRL_SYSTEM0` or `CTRL_SYSTEM1` stores the value and has no side effect. `pc` past the last address is log 31's. -/
def Obligations.WriteOfSystemRegisters : Prop :=
  (∀ (s : State) (rs : Nat), WritePasses s rs 8 →
    exec (.ctrlwrSystem0 rs) s = .next { s with system0 := readReg s rs, pc := nextPc s }) ∧
  (∀ (s : State) (rs : Nat), WritePasses s rs 9 →
    exec (.ctrlwrSystem1 rs) s = .next { s with system1 := readReg s rs, pc := nextPc s })

/-- Writing `CTRL_MIRRORXADDR` stores the value, and a `MODESWITCH` from there continues at it (40_ctrl_access.md R115; the spec's
decision D12); only `MIRRORXADDR`, the note that it has been written (log 15) and `pc` change. `pc` past the last address is log
31's. -/
def Obligations.WriteOfReturnAddress : Prop :=
  ∀ (s : State) (rs : Nat), WritePasses s rs 5 →
    ∃ t, exec (.ctrlwrMirrorxaddr rs) s = .next t ∧
      t = { s with mirrorxaddr := readReg s rs, written := { s.written with mirrorxaddr := true }, pc := nextPc s } ∧
      (flagSysmode s.flags = true → s.written.mirrorflags = true → ∃ u, exec .modeswitch t = .next u ∧ u.pc = readReg s rs)

/-- Writing `CTRL_FLAGS` or `CTRL_MIRRORFLAGS` replaces the register; a value with bit 7, a bit of [23:19] or a bit from 24 on set
has no meaning (40_ctrl_access.md R109, R111; the spec's decisions D8, D10). Only the register, the note that `MIRRORFLAGS` has been
written (log 15) and `pc` change. `pc` past the last address is log 31's. -/
def Obligations.WriteOfFlagsRegisters : Prop :=
  ∀ (s : State) (rs : Nat),
    (WritePasses s rs 2 → readReg s rs &&& 0xFFFFFFFFFFF80080#64 = 0#64 →
      exec (.ctrlwrFlags rs) s = .next { s with flags := readReg s rs, pc := nextPc s }) ∧
    (WritePasses s rs 2 → readReg s rs &&& 0xFFFFFFFFFFF80080#64 ≠ 0#64 →
      exec (.ctrlwrFlags rs) s = .refused .reservedFlagBits) ∧
    (WritePasses s rs 3 → readReg s rs &&& 0xFFFFFFFFFFF80080#64 = 0#64 →
      exec (.ctrlwrMirrorflags rs) s =
        .next { s with
          mirrorflags := readReg s rs, written := { s.written with mirrorflags := true }, pc := nextPc s }) ∧
    (WritePasses s rs 3 → readReg s rs &&& 0xFFFFFFFFFFF80080#64 ≠ 0#64 →
      exec (.ctrlwrMirrorflags rs) s = .refused .reservedFlagBits)

/-- Writing `CTRL_TIMER0` replaces the configuration, zeroes the count and dingdong on `Clear` and dingdong on `Sleep`; a value with
a bit of [7:4], [15:12] or from 20 on set has no meaning (40_ctrl_access.md R117; the spec's decisions D8, D19). Only TIMER0 and
`pc` change. `pc` past the last address is log 31's. -/
def Obligations.WriteOfTimer : Prop :=
  ∀ (s : State) (rs : Nat), WritePasses s rs 6 →
    let v := readReg s rs
    (v &&& 0xFFFFFFFFFFF0F0F0#64 = 0#64 →
      exec (.ctrlwrTimer0 rs) s = .next { s with
        timer0 :=
          { count := if v.getLsbD 0 then 0 else s.timer0.count
            dingdong := if v.getLsbD 0 || v.getLsbD 3 then false else s.timer0.dingdong
            alarmEn := v.getLsbD 1
            forgetEn := v.getLsbD 2
            alarmSh := v.extractLsb' 8 4
            forgetSh := v.extractLsb' 16 4 }
        pc := nextPc s }) ∧
    (v &&& 0xFFFFFFFFFFF0F0F0#64 ≠ 0#64 → exec (.ctrlwrTimer0 rs) s = .refused .reservedTimerBits)

/-- Writing `CTRL_GPIOA_PINS` or `CTRL_PROCESSORS` drives the pins there are with the low bits of the value, and is recorded as an
output event (40_ctrl_access.md R122, R124; the spec's decisions D25, D26; the record is log 19). Only the latch, the record and
`pc` change. `pc` past the last address is log 31's. -/
def Obligations.WriteOfPins : Prop :=
  ∀ (s : State) (rs : Nat), ParamsLegal s.params →
    (WritePasses s rs 0xA →
      let levels := readReg s rs &&& BitVec.ofNat 64 (2 ^ s.params.gpioaWidth - 1)
      exec (.ctrlwrGpioaPins rs) s =
        .next { s with gpioaOut := levels, outEvents := .gpioaPins levels :: s.outEvents, pc := nextPc s }) ∧
    (WritePasses s rs 0xF →
      let levels := readReg s rs &&& BitVec.ofNat 64 (2 ^ s.params.procWidth - 1)
      exec (.ctrlwrProcessors rs) s =
        .next { s with procOut := levels, outEvents := .procPins levels :: s.outEvents, pc := nextPc s })

/-- Writing the register of an MMU slot there is stores the whole value; only that register and `pc` change (40_ctrl_access.md R126,
R128; the operation is the spec's, D11). `pc` past the last address is log 31's. -/
def Obligations.WriteOfMmuRegisters : Prop :=
  (∀ (s : State) (rs : Nat), 0 < s.params.mmuSlots → WritePasses s rs 0x10 →
    exec (.ctrlwrMmuX0 rs) s = .next { s with mmuX := s.mmuX.set 0 (readReg s rs), pc := nextPc s }) ∧
  (∀ (s : State) (rs : Nat), 1 < s.params.mmuSlots → WritePasses s rs 0x11 →
    exec (.ctrlwrMmuX1 rs) s = .next { s with mmuX := s.mmuX.set 1 (readReg s rs), pc := nextPc s }) ∧
  (∀ (s : State) (rs : Nat), 2 < s.params.mmuSlots → WritePasses s rs 0x12 →
    exec (.ctrlwrMmuX2 rs) s = .next { s with mmuX := s.mmuX.set 2 (readReg s rs), pc := nextPc s }) ∧
  (∀ (s : State) (rs : Nat), 3 < s.params.mmuSlots → WritePasses s rs 0x13 →
    exec (.ctrlwrMmuX3 rs) s = .next { s with mmuX := s.mmuX.set 3 (readReg s rs), pc := nextPc s }) ∧
  (∀ (s : State) (rs : Nat), 4 < s.params.mmuSlots → WritePasses s rs 0x14 →
    exec (.ctrlwrMmuX4 rs) s = .next { s with mmuX := s.mmuX.set 4 (readReg s rs), pc := nextPc s }) ∧
  (∀ (s : State) (rs : Nat), 5 < s.params.mmuSlots → WritePasses s rs 0x15 →
    exec (.ctrlwrMmuX5 rs) s = .next { s with mmuX := s.mmuX.set 5 (readReg s rs), pc := nextPc s }) ∧
  (∀ (s : State) (rs : Nat), 6 < s.params.mmuSlots → WritePasses s rs 0x16 →
    exec (.ctrlwrMmuX6 rs) s = .next { s with mmuX := s.mmuX.set 6 (readReg s rs), pc := nextPc s }) ∧
  (∀ (s : State) (rs : Nat), 7 < s.params.mmuSlots → WritePasses s rs 0x17 →
    exec (.ctrlwrMmuX7 rs) s = .next { s with mmuX := s.mmuX.set 7 (readReg s rs), pc := nextPc s }) ∧
  (∀ (s : State) (rs : Nat), 0 < s.params.mmuSlots → WritePasses s rs 0x20 →
    exec (.ctrlwrMmuY0 rs) s = .next { s with mmuY := s.mmuY.set 0 (readReg s rs), pc := nextPc s }) ∧
  (∀ (s : State) (rs : Nat), 1 < s.params.mmuSlots → WritePasses s rs 0x21 →
    exec (.ctrlwrMmuY1 rs) s = .next { s with mmuY := s.mmuY.set 1 (readReg s rs), pc := nextPc s }) ∧
  (∀ (s : State) (rs : Nat), 2 < s.params.mmuSlots → WritePasses s rs 0x22 →
    exec (.ctrlwrMmuY2 rs) s = .next { s with mmuY := s.mmuY.set 2 (readReg s rs), pc := nextPc s }) ∧
  (∀ (s : State) (rs : Nat), 3 < s.params.mmuSlots → WritePasses s rs 0x23 →
    exec (.ctrlwrMmuY3 rs) s = .next { s with mmuY := s.mmuY.set 3 (readReg s rs), pc := nextPc s }) ∧
  (∀ (s : State) (rs : Nat), 4 < s.params.mmuSlots → WritePasses s rs 0x24 →
    exec (.ctrlwrMmuY4 rs) s = .next { s with mmuY := s.mmuY.set 4 (readReg s rs), pc := nextPc s }) ∧
  (∀ (s : State) (rs : Nat), 5 < s.params.mmuSlots → WritePasses s rs 0x25 →
    exec (.ctrlwrMmuY5 rs) s = .next { s with mmuY := s.mmuY.set 5 (readReg s rs), pc := nextPc s }) ∧
  (∀ (s : State) (rs : Nat), 6 < s.params.mmuSlots → WritePasses s rs 0x26 →
    exec (.ctrlwrMmuY6 rs) s = .next { s with mmuY := s.mmuY.set 6 (readReg s rs), pc := nextPc s }) ∧
  (∀ (s : State) (rs : Nat), 7 < s.params.mmuSlots → WritePasses s rs 0x27 →
    exec (.ctrlwrMmuY7 rs) s = .next { s with mmuY := s.mmuY.set 7 (readReg s rs), pc := nextPc s })

/-- Writing an overlord register stores the low 32 bits of the value; only that register and `pc` change (40_ctrl_access.md R130;
the spec's decision D32). `pc` past the last address is log 31's. -/
def Obligations.WriteOfOverlordRegisters : Prop :=
  (∀ (s : State) (rs : Nat), WritePasses s rs 0x30 →
    exec (.ctrlwrOverlord0 rs) s =
      .next { s with overlord := s.overlord.set 0 ((readReg s rs).extractLsb' 0 32), pc := nextPc s }) ∧
  (∀ (s : State) (rs : Nat), WritePasses s rs 0x31 →
    exec (.ctrlwrOverlord1 rs) s =
      .next { s with overlord := s.overlord.set 1 ((readReg s rs).extractLsb' 0 32), pc := nextPc s }) ∧
  (∀ (s : State) (rs : Nat), WritePasses s rs 0x32 →
    exec (.ctrlwrOverlord2 rs) s =
      .next { s with overlord := s.overlord.set 2 ((readReg s rs).extractLsb' 0 32), pc := nextPc s }) ∧
  (∀ (s : State) (rs : Nat), WritePasses s rs 0x33 →
    exec (.ctrlwrOverlord3 rs) s =
      .next { s with overlord := s.overlord.set 3 ((readReg s rs).extractLsb' 0 32), pc := nextPc s }) ∧
  (∀ (s : State) (rs : Nat), WritePasses s rs 0x34 →
    exec (.ctrlwrOverlord4 rs) s =
      .next { s with overlord := s.overlord.set 4 ((readReg s rs).extractLsb' 0 32), pc := nextPc s }) ∧
  (∀ (s : State) (rs : Nat), WritePasses s rs 0x35 →
    exec (.ctrlwrOverlord5 rs) s =
      .next { s with overlord := s.overlord.set 5 ((readReg s rs).extractLsb' 0 32), pc := nextPc s }) ∧
  (∀ (s : State) (rs : Nat), WritePasses s rs 0x36 →
    exec (.ctrlwrOverlord6 rs) s =
      .next { s with overlord := s.overlord.set 6 ((readReg s rs).extractLsb' 0 32), pc := nextPc s }) ∧
  (∀ (s : State) (rs : Nat), WritePasses s rs 0x37 →
    exec (.ctrlwrOverlord7 rs) s =
      .next { s with overlord := s.overlord.set 7 ((readReg s rs).extractLsb' 0 32), pc := nextPc s })

/-- A write of a numbered control register that passes its checks has that register's effect, or the spec's refusal
(40_ctrl_access.md R101, R105 to R130). The operation is the spec's, D11, as are the refusals, D5, D7, D8, and the effects on
`FLAGS`, TIMER0, the pins and the overlord registers, D10, D19, D25, D26, D32; the record of output events is log 19, the note of
what has been written log 15, the numbers of the slots log 29. `pc` past the last address is log 31's. -/
def Obligations.NumberedWriteOutcome : Prop :=
  ∀ (s : State) (cn rs : Nat) (reg : CtrlReg), WritePasses s rs cn → ctrlRegOf s.params cn = some reg →
    let v := readReg s rs
    let o := exec (.ctrlwr cn rs) s
    match reg with
    | .cpuid => o = .refused .cpuidWrite
    | .excn => o = .refused .excnWrite
    | .flags =>
      (v &&& 0xFFFFFFFFFFF80080#64 = 0#64 → o = .next { s with flags := v, pc := nextPc s }) ∧
      (v &&& 0xFFFFFFFFFFF80080#64 ≠ 0#64 → o = .refused .reservedFlagBits)
    | .mirrorflags =>
      (v &&& 0xFFFFFFFFFFF80080#64 = 0#64 →
        o = .next { s with mirrorflags := v, written := { s.written with mirrorflags := true }, pc := nextPc s }) ∧
      (v &&& 0xFFFFFFFFFFF80080#64 ≠ 0#64 → o = .refused .reservedFlagBits)
    | .xaddr => o = .next { s with xaddr := v, written := { s.written with xaddr := true }, pc := nextPc s }
    | .mirrorxaddr =>
      o = .next { s with mirrorxaddr := v, written := { s.written with mirrorxaddr := true }, pc := nextPc s }
    | .timer0 =>
      (v &&& 0xFFFFFFFFFFF0F0F0#64 = 0#64 → o = .next { s with timer0 := timer0Write v s.timer0, pc := nextPc s }) ∧
      (v &&& 0xFFFFFFFFFFF0F0F0#64 ≠ 0#64 → o = .refused .reservedTimerBits)
    | .system0 => o = .next { s with system0 := v, pc := nextPc s }
    | .system1 => o = .next { s with system1 := v, pc := nextPc s }
    | .gpioaPins =>
      ∃ levels, levels = lowBits s.params.gpioaWidth v ∧
        o = .next { s with gpioaOut := levels, outEvents := .gpioaPins levels :: s.outEvents, pc := nextPc s }
    | .processors =>
      ∃ levels, levels = lowBits s.params.procWidth v ∧
        o = .next { s with procOut := levels, outEvents := .procPins levels :: s.outEvents, pc := nextPc s }
    | .mmuX n => o = .next { s with mmuX := s.mmuX.set n v, pc := nextPc s }
    | .mmuY n => o = .next { s with mmuY := s.mmuY.set n v, pc := nextPc s }
    | .overlord n => o = .next { s with overlord := s.overlord.set n (v.extractLsb' 0 32), pc := nextPc s }

/-- A write of `CTRL_CPUID` or `CTRL_EXCN` that passes its checks has no meaning (40_ctrl_access.md R105, R107; the spec's decisions D5,
D7). -/
def Obligations.UndescribedWritesAreRefused : Prop :=
  ∀ (s : State) (rs : Nat),
    (WritePasses s rs 0 → exec (.ctrlwrCpuid rs) s = .refused .cpuidWrite) ∧
    (WritePasses s rs 1 → exec (.ctrlwrExcn rs) s = .refused .excnWrite)

/-- An access to a number without a register that passes its checks has no meaning, whatever form names it: `CTRL_TIMER1`, the
unassigned numbers, the numbers of slots there are not (40_ctrl_access.md R118, R131; the spec's decision D23; log 29). -/
def Obligations.UnassignedNumbersAreRefused : Prop :=
  (∀ (i : Instr) (s : State) (r cn : Nat) (dir : Dir), accessOf i = some (r, cn, dir) →
    ctrlAllowed s cn dir = true → regAccessible s r = true → ctrlRegOf s.params cn = none →
    exec i s = .refused (.unassignedControlRegister cn)) ∧
  ∀ (s : State) (r cn : Nat),
    (ReadPasses s r 7 → exec (.ctrlrdTimer1 r) s = .refused (.unassignedControlRegister 7) ∧
      exec (.ctrlrd r 7) s = .refused (.unassignedControlRegister 7)) ∧
    (WritePasses s r 7 → exec (.ctrlwrTimer1 r) s = .refused (.unassignedControlRegister 7) ∧
      exec (.ctrlwr 7 r) s = .refused (.unassignedControlRegister 7)) ∧
    (CtrlUnassigned cn → s.params.mmuSlots ≤ 8 → ReadPasses s r cn →
      exec (.ctrlrdUnassigned r cn) s = .refused (.unassignedControlRegister cn) ∧
      exec (.ctrlrd r cn) s = .refused (.unassignedControlRegister cn)) ∧
    (CtrlUnassigned cn → s.params.mmuSlots ≤ 8 → WritePasses s r cn →
      exec (.ctrlwrUnassigned cn r) s = .refused (.unassignedControlRegister cn) ∧
      exec (.ctrlwr cn r) s = .refused (.unassignedControlRegister cn))

/-! ## TIMER0 -/

/-- A tick adds one to the count, modulo 2^XLEN; an enabled alarm whose threshold the new count equals sets dingdong, and an
enabled forget whose threshold it equals zeroes the count; nothing else changes (60_exceptions.md R180 to R183; the spec's decisions
D17, D18). -/
def Obligations.TimerTickEffect : Prop :=
  ∀ (s : State),
    let c := (s.timer0.count.toNat + 1) % 2 ^ s.params.xlen.bits
    ∃ t : Timer0, timerTick s = { s with timer0 := t } ∧
      t.count.toNat = (if s.timer0.forgetEn = true ∧ c = 16 * 2 ^ s.timer0.forgetSh.toNat then 0 else c) ∧
      (t.dingdong = true ↔
        s.timer0.dingdong = true ∨ (s.timer0.alarmEn = true ∧ c = 16 * 2 ^ s.timer0.alarmSh.toNat)) ∧
      t.alarmEn = s.timer0.alarmEn ∧ t.forgetEn = s.timer0.forgetEn ∧
      t.alarmSh = s.timer0.alarmSh ∧ t.forgetSh = s.timer0.forgetSh

/-- Over a whole step dingdong rises only by the alarm, and falls only by the entry for a timer exception or by a write of
`CTRL_TIMER0` with `Clear` or `Sleep` (60_exceptions.md R185; the spec's decision D19). -/
def Obligations.DingdongRisesAndFalls : Prop :=
  ∀ (s t : State), step s = .next t →
    (s.timer0.dingdong = false → t.timer0.dingdong = true → alarmNow s = true) ∧
    (s.timer0.dingdong = true → t.timer0.dingdong = false →
      asyncRequest (alarmNow s) (timerTick s) = some .timer ∨
      ∃ i rs, fetchInstr (timerTick s) = .ok i ∧ accessOf i = some (rs, 6, .write) ∧
        ((readReg s rs).getLsbD 0 = true ∨ (readReg s rs).getLsbD 3 = true))

/-! ## The Real-Time MMU -/

/-- MMU registers are plain storage whenever they are not in use. -/
def Obligations.MmuRegistersArePlainStorage : Prop :=
  ∀ (s : State) (n : Fin 16) (v : Word),
    (∃ t, ctrlWrite (.mmuX n) v s = .ok t ∧ ctrlRead (.mmuX n) t = v) ∧
    (∃ t, ctrlWrite (.mmuY n) v s = .ok t ∧ ctrlRead (.mmuY n) t = v) ∧
    (flagMmuenable s.flags = false →
      ∀ x y k va size, translate { s with mmuX := x, mmuY := y } k va size = .ok va) ∧
    (slotEnabled s.mmuX[n] = false → ∀ x y, slotEnabled x = false → ∀ k va size,
      translate { s with mmuX := s.mmuX.set n x, mmuY := s.mmuY.set n y } k va size = translate s k va size)

/-- The slot used is the least that matches of the `MMU_SLOTS` there are, and none where none matches, as long as the slots met are
aligned; later slots are not consulted (20_memory.md R61, R62, R69; the spec's decision D27; what "met" means is log 13). -/
def Obligations.LowestMatchIsTheLeast : Prop :=
  ∀ (s : State) (k : AccessKind) (va : Word),
    (∀ n : Fin 16, n.val < s.params.mmuSlots → slotMatches s.mmuX[n] k va = true →
      (∀ m : Fin 16, m < n → slotMatches s.mmuX[m] k va = false) →
      (∀ m : Fin 16, m ≤ n → slotApplies s.mmuX[m] k = true → slotAligned s.mmuX[m] s.mmuY[m] = true) →
      lowestMatch s k va = .ok (some n)) ∧
    ((∀ n : Fin 16, n.val < s.params.mmuSlots → slotMatches s.mmuX[n] k va = false) →
      (∀ n : Fin 16, n.val < s.params.mmuSlots → slotApplies s.mmuX[n] k = true →
        slotAligned s.mmuX[n] s.mmuY[n] = true) →
      lowestMatch s k va = .ok none)

/-- With the MMU on, an access that no slot matches, or that the lowest matching slot denies, raises the fetch exception for a
fetch and the bus exception for any other kind, also where it crosses the slot's end (20_memory.md R63, R64; the spec's decisions
D29, D30; that the permission comes before the crossing is log 14, which slots are met log 13). -/
def Obligations.DeniedAccessRaises : Prop :=
  ∀ (s : State) (k : AccessKind) (va : Word) (size : Nat), flagMmuenable s.flags = true →
    (lowestMatch s k va = .ok none ∨
      ∃ n : Fin 16, lowestMatch s k va = .ok (some n) ∧
        ((slotSystem s.mmuX[n] = true ∧ flagSysmode s.flags = false) ∨
          ((k = .read ∨ k = .ioread) ∧ slotRead s.mmuX[n] = false) ∨
          ((k = .write ∨ k = .iowrite) ∧ slotWrite s.mmuX[n] = false) ∨
          (k = .fetch ∧ slotInstr s.mmuX[n] = false))) →
    translate s k va size = .error (.raise (if k = .fetch then .fetch else .bus))

/-- With the MMU on, an access that the lowest matching slot permits and holds goes to the slot's physical base plus the offset in the
slot, which under the alignment the spec asks for is the physical base with the low bits of the address in it; and no other access is
translated (20_memory.md R60, R65; the spec's decisions D27, D28). -/
def Obligations.TranslatedAddress : Prop :=
  ∀ (s : State) (k : AccessKind) (va : Word) (size : Nat), s.Legal → FitsXlen s.params va →
    flagMmuenable s.flags = true →
    (∀ n : Fin 16, lowestMatch s k va = .ok (some n) → permitted s s.mmuX[n] k = true →
      va.toNat + size ≤ (slotBase s.mmuX[n]).toNat + slotSize s.mmuX[n] →
      ∃ pa, translate s k va size = .ok pa ∧
        pa.toNat = ((slotBase s.mmuY[n]).toNat + (va.toNat - (slotBase s.mmuX[n]).toNat)) % 2 ^ s.params.xlen.bits ∧
        pa = slotBase s.mmuY[n] ||| (va &&& BitVec.ofNat 64 (slotSize s.mmuX[n] - 1))) ∧
    (∀ pa, translate s k va size = .ok pa →
      ∃ n : Fin 16, lowestMatch s k va = .ok (some n) ∧ permitted s s.mmuX[n] k = true ∧
        va.toNat + size ≤ (slotBase s.mmuX[n]).toNat + slotSize s.mmuX[n])

/-- The spec gives no meaning to an access that crosses the end of the slot it goes through, nor to one that meets an enabled slot
that is not aligned to its size (20_memory.md R61, R65; the spec's decisions D27, D28; what "met" means is log 13). -/
def Obligations.SlotRefusals : Prop :=
  ∀ (s : State) (k : AccessKind) (va : Word) (size : Nat) (n : Fin 16), flagMmuenable s.flags = true →
    (lowestMatch s k va = .ok (some n) → permitted s s.mmuX[n] k = true →
      (slotBase s.mmuX[n]).toNat + slotSize s.mmuX[n] < va.toNat + size →
      translate s k va size = .error (.refuse (.crossesSlotEnd n))) ∧
    (n.val < s.params.mmuSlots → slotApplies s.mmuX[n] k = true → slotAligned s.mmuX[n] s.mmuY[n] = false →
      (∀ m : Fin 16, m < n → slotMatches s.mmuX[m] k va = false ∧
        (slotApplies s.mmuX[m] k = true → slotAligned s.mmuX[m] s.mmuY[m] = true)) →
      translate s k va size = .error (.refuse (.misalignedSlot n)))

/-- An access that its bus fails raises the fetch exception for a fetch and the bus exception for a data or I/O access, and reads and
writes nothing; so does an access that translation fails. The accessing instruction enters that exception with `MIRRORXADDR` its own
address, ends the run with exceptions off, and has no meaning before the handler is set (60_exceptions.md R153, R154, R165, I32; D29;
which accesses the bus fails is a parameter, log 10; the accessing instruction is log 21's, the last clause log 15's). A `pc` or an
address the wider set's alignment rule forbids raises that set's own exception (20_memory.md R72, I33; log 8). -/
def Obligations.BusFailureRaises : Prop :=
  ∀ (s : State) (va v : Word) (size : Nat),
    (∀ pa, translate s .fetch s.pc 4 = .ok pa → busAnswers s .fetch pa 4 = false →
      (s.params.misalignedPc = none ∨ s.pc.toNat % 4 = 0) → fetchAddr s = .error (.raise .fetch)) ∧
    (∀ c, s.params.misalignedPc = some c → s.pc.toNat % 4 ≠ 0 → fetchAddr s = .error (.raise (.other c))) ∧
    (∀ k, k ≠ .fetch → dataAligned s va size = true →
      (translate s k va size = .error (.raise .bus) ∨
        ∃ pa, translate s k va size = .ok pa ∧ busAnswers s k pa size = false) →
      dataAccess s k va size = .error (.raise .bus)) ∧
    (∀ k c, s.params.misalignedData = some c → 1 < size → va.toNat % size ≠ 0 →
      dataAccess s k va size = .error (.raise (.other c))) ∧
    (∀ e, dataAccess s .read va size = .error e → loadData s va size = .error e) ∧
    (∀ e, dataAccess s .write va size = .error e → storeData s va size v = .error e) ∧
    ∀ (α : Type) (a : Except Stop α) (rest : α → Host.Outcome State Fault Refusal) (k : ExcKind), a = .error (.raise k) →
      (flagExcnenable s.flags = true → EntryReady s →
        ∃ t, accessThen a s rest = .next t ∧ t = enterException k s ∧ t.mirrorxaddr = s.pc) ∧
      (flagExcnenable s.flags = true → entryReady s = false → accessThen a s rest = .refused (.handlerUnset k)) ∧
      (flagExcnenable s.flags = false → accessThen a s rest = .fault (.exceptionsDisabled k))

/-- A data write of up to 8 bytes succeeds whenever its own address is one the wider set takes, translates and is answered by the bus
(logs 8, 10), whether or not the same address may be read: it stores the value's low bytes in the data byte order, every byte outside
them reads as before, and nothing but memory changes. Where a data read of that address goes to the same place, it gives back what was
written (00_scope.md R8; 20_memory.md R63, R71; the operations are log 21's, an access past the top of the address space log 7's). -/
def Obligations.StoredDataIsLoaded : Prop :=
  ∀ (s : State) (va pa v : Word) (n : Nat), n ≤ 8 → dataAccess s .write va n = .ok pa →
    ∃ t, storeData s va n v = .ok t ∧
      (∀ k, k < n → memRead t.mem (byteAddr s.params pa k) =
        some (match s.params.dataOrder with
          | .little => v.extractLsb' (8 * k) 8
          | .big => v.extractLsb' (8 * (n - 1 - k)) 8)) ∧
      (∀ a, (∀ k, k < n → a ≠ byteAddr s.params pa k) → memRead t.mem a = memRead s.mem a) ∧
      { t with mem := s.mem } = s ∧
      (dataAccess s .read va n = .ok pa → loadData t va n = .ok (v.toNat % 2 ^ (8 * n)))

/-! ## The overlord registers -/

/-- Overlord bit `i` is bit `i & 31` of register `i >> 5`: writing one register sets exactly its 32 bits (10_state.md R31; 40_ctrl_access.md
R130; the spec's decision D32). -/
def Obligations.OverlordBitPlacement : Prop :=
  ∀ (s t : State) (n : Fin 8) (v : Word) (i : BitVec 8), ctrlWrite (.overlord n) v s = .ok t →
    overlordBit t i = if i.toNat / 32 = n.val then v.getLsbD (i.toNat % 32) else overlordBit s i

/-! ## Reset -/

/-- Whatever the machine held, reset makes the register protection setting 255 and every GPIOA output pin 0
(70_reset_and_hazards.md R200). That the machine after reset is that event over a blank machine is the model's choice (DESIGN CHOICE,
logs 2, 4, 6). -/
def Obligations.ResetValuesOfTheSource : Prop :=
  State.reset = State.blank.applyReset ∧
    ∀ (s : State), flagRegprot s.applyReset.flags = 255 ∧ s.applyReset.gpioaOut = 0

/-- The rest of the reset table: system mode, everything else in `FLAGS` off, the timer's enables and dingdong off, `pc` at
`RESET_PC` (10_state.md R37; the spec's decisions D9, D21). That whatever the table calls unspecified keeps the value it had is the
model's choice (log 4), and so are that memory keeps every byte (log 33) and the note that none of it has been written (log 15). -/
def Obligations.ResetTable : Prop :=
  ∀ (s : State),
    s.applyReset.flags = 0x0000FF01#64 ∧ flagSysmode s.applyReset.flags = true ∧
    flagExcnenable s.applyReset.flags = false ∧ flagMmuenable s.applyReset.flags = false ∧
    flagOverlordenable s.applyReset.flags = false ∧ flagRemenable s.applyReset.flags = false ∧
    s.applyReset.timer0.alarmEn = false ∧ s.applyReset.timer0.forgetEn = false ∧ s.applyReset.timer0.dingdong = false ∧
    s.applyReset.pc = s.params.resetPc ∧ s.applyReset.written = ⟨false, false, false⟩ ∧
    { s.applyReset with
      flags := s.flags
      timer0 :=
        { s.applyReset.timer0 with
          alarmEn := s.timer0.alarmEn, forgetEn := s.timer0.forgetEn, dingdong := s.timer0.dingdong }
      gpioaOut := s.gpioaOut
      pc := s.pc
      written := s.written } = s

/-- The state after reset is legal, and a reset of a legal machine leaves it legal (the values the source leaves open are log 4's, that
memory keeps its bytes is log 33). -/
def Obligations.ResetIsLegal : Prop :=
  State.reset.Legal ∧ ∀ s : State, s.Legal → s.applyReset.Legal

/-! ## The whole machine -/

/-- Every step that goes on keeps a state legal: every register an `XLEN`-bit value, the pins within their widths, the reserved
bits of both flags words zero (10_state.md R11, R17; 20_memory.md R50; the spec's decisions D8, D24), memory in its canonical form inside
the address space (log 6), the parameters in their ranges (logs 29, 32), as many general registers as
`NUM_GPR` says (log 32). That `pc` stays an `XLEN`-bit value past the last address is log
31's. -/
def Obligations.StepKeepsLegal : Prop :=
  ∀ (s t : State), s.Legal → step s = .next t → t.Legal

/-- In user mode, with no register open to it, every step that goes on enters an exception: the flags become `MIRRORFLAGS`, the
program continues at `XADDR`, and registers, memory, `XADDR` and the system, MMU, overlord and pin registers stay; of TIMER0, the
count is the tick's, dingdong the tick's or cleared, and the configuration stays (60_exceptions.md R179, R180, R184; the spec's
decisions D11, D13, D17, D22, D37). -/
def Obligations.UserModeStepsEnterExceptions : Prop :=
  ∀ (s t : State), step s = .next t → flagSysmode s.flags = false → NoUserAccess s →
    (∃ k, t.excn = toXlen s.params (Config.excCode k)) ∧
    t.pc = s.xaddr ∧ t.mirrorxaddr = s.pc ∧ t.flags = s.mirrorflags ∧ t.mirrorflags = s.flags ∧
    t.regs = s.regs ∧ t.mem = s.mem ∧ t.xaddr = s.xaddr ∧ t.system0 = s.system0 ∧ t.system1 = s.system1 ∧
    t.gpioaOut = s.gpioaOut ∧ t.procOut = s.procOut ∧ t.mmuX = s.mmuX ∧ t.mmuY = s.mmuY ∧ t.overlord = s.overlord ∧
    t.outEvents = s.outEvents ∧ t.params = s.params ∧
    t.timer0.alarmEn = s.timer0.alarmEn ∧ t.timer0.forgetEn = s.timer0.forgetEn ∧
    t.timer0.alarmSh = s.timer0.alarmSh ∧ t.timer0.forgetSh = s.timer0.forgetSh ∧
    t.timer0.count = (timerTick s).timer0.count ∧
    (t.timer0.dingdong = (timerTick s).timer0.dingdong ∨
      (asyncRequest (alarmNow s) (timerTick s) = some .timer ∧ t.timer0.dingdong = false))

/-- Over a step `FLAGS` changes only by the exchange with `MIRRORFLAGS`, on an exception entry or a `MODESWITCH`, or by a write of
`CTRL_FLAGS` (10_state.md R18, 60_exceptions.md R179; the spec's decisions D10, D12). -/
def Obligations.FlagsChangeOnlyByExchangeOrWrite : Prop :=
  ∀ (s t : State), step s = .next t →
    (t.flags = s.flags) ∨
    (t.flags = s.mirrorflags ∧ t.mirrorflags = s.flags ∧
      ((t.pc = s.xaddr ∧ t.mirrorxaddr = s.pc) ∨ (fetchInstr (timerTick s) = .ok .modeswitch ∧ t.pc = s.mirrorxaddr))) ∨
    (∃ i rs, fetchInstr (timerTick s) = .ok i ∧ accessOf i = some (rs, 2, .write) ∧ t.flags = readReg s rs)

/-- What each instruction may change. A general register changes only by a read of a control register into it; `XADDR`, `SYSTEM0`,
`SYSTEM1`, TIMER0, the pin latches, the MMU and the overlord registers only by a write of their own number; `EXCN` only by an exception
entry; `MIRRORXADDR` only by an entry or a write of its number; `FLAGS` and `MIRRORFLAGS` only by an entry, a `MODESWITCH` or a write of
their number; memory, the parameters and the environment's inputs by none (40_ctrl_access.md R100, R101; 10_state.md R13, R18 to R21,
R25 to R31; the operations are the spec's, D11, D12, D13). -/
def Obligations.RegistersChangeOnlyByTheirAccess : Prop :=
  ∀ (i : Instr) (s t : State), exec i s = .next t →
    t.regs.length = s.regs.length ∧
    (∀ r, t.regs[r]? ≠ s.regs[r]? → ∃ cn, accessOf i = some (r, cn, .read)) ∧
    (t.excn ≠ s.excn → ∃ k, t = enterException k s) ∧
    (t.flags ≠ s.flags →
      (∃ k, t = enterException k s) ∨ i = .modeswitch ∨ ∃ rs, accessOf i = some (rs, 2, .write)) ∧
    (t.mirrorflags ≠ s.mirrorflags →
      (∃ k, t = enterException k s) ∨ i = .modeswitch ∨ ∃ rs, accessOf i = some (rs, 3, .write)) ∧
    (t.mirrorxaddr ≠ s.mirrorxaddr → (∃ k, t = enterException k s) ∨ ∃ rs, accessOf i = some (rs, 5, .write)) ∧
    (t.timer0 ≠ s.timer0 → ∃ rs, accessOf i = some (rs, 6, .write)) ∧
    (t.xaddr ≠ s.xaddr → ∃ rs, accessOf i = some (rs, 4, .write)) ∧
    (t.system0 ≠ s.system0 → ∃ rs, accessOf i = some (rs, 8, .write)) ∧
    (t.system1 ≠ s.system1 → ∃ rs, accessOf i = some (rs, 9, .write)) ∧
    (t.gpioaOut ≠ s.gpioaOut → ∃ rs, accessOf i = some (rs, 0xA, .write)) ∧
    (t.procOut ≠ s.procOut → ∃ rs, accessOf i = some (rs, 0xF, .write)) ∧
    (t.outEvents ≠ s.outEvents → ∃ rs cn, accessOf i = some (rs, cn, .write) ∧ (cn = 0xA ∨ cn = 0xF)) ∧
    (∀ n : Fin 16, t.mmuX[n] ≠ s.mmuX[n] → ∃ rs, accessOf i = some (rs, 0x10 + n.val, .write)) ∧
    (∀ n : Fin 16, t.mmuY[n] ≠ s.mmuY[n] → ∃ rs, accessOf i = some (rs, 0x20 + n.val, .write)) ∧
    (∀ n : Fin 8, t.overlord[n] ≠ s.overlord[n] → ∃ rs, accessOf i = some (rs, 0x30 + n.val, .write)) ∧
    t.mem = s.mem ∧ t.params = s.params ∧ t.inputs = s.inputs ∧ t.draws = s.draws

/-- No step writes memory or changes a parameter: every byte reads as before (no row of the table stores to memory,
20_memory.md R71; 00_scope.md R4). That nothing else makes a data access is log 21, that no other agent writes memory log 28. -/
def Obligations.StepsLeaveMemoryAndParameters : Prop :=
  ∀ (s t : State), step s = .next t → (∀ a, memRead t.mem a = memRead s.mem a) ∧ t.mem = s.mem ∧ t.params = s.params

/-- `FLAGS.critical` is an output: flipping it changes no translation and no data access, no exception taken at a boundary, no
instruction fetched, no tick and no checks of an access; and what every instruction does, and a whole step, stays the same but for the
bit itself, where it now stands in the flags pair, and but for what a read of `CTRL_FLAGS` reads (60_exceptions.md R195; the spec's
decision D38). -/
def Obligations.CriticalHasNoEffectInTheCore : Prop :=
  ∀ (s : State),
    let t := flipCritical s
    (∀ k va size, Sys2Proof.Machine.translate t k va size = Sys2Proof.Machine.translate s k va size) ∧
    (∀ va n, loadData t va n = loadData s va n) ∧
    (∀ va n v u, storeData s va n v = .ok u → ∃ w, storeData t va n v = .ok w ∧ w.mem = u.mem) ∧
    (∀ alarm, asyncRequest alarm t = asyncRequest alarm s) ∧
    fetchInstr t = fetchInstr s ∧
    (timerTick t).timer0 = (timerTick s).timer0 ∧
    (∀ r cn dir, preChecks r cn dir t = preChecks r cn dir s) ∧
    (∀ i, (∀ rd, accessOf i ≠ some (rd, 2, .read)) → SameButCritical (exec i s) (exec i t)) ∧
    ((∀ i rd, fetchInstr (timerTick s) = .ok i → accessOf i ≠ some (rd, 2, .read)) → SameButCritical (step s) (step t))
end

