-- ==== Sys2Proof/Laws/State.lean ====
section
/-! SUPPORT. What each update does to each field of the state, so that no proof unfolds an update. -/

namespace Sys2Proof.Machine

/-! ### `writeReg` -/

@[simp] theorem writeReg_params (s : State) (r : Nat) (v : Word) : (writeReg s r v).params = s.params := rfl
@[simp] theorem writeReg_regs (s : State) (r : Nat) (v : Word) : (writeReg s r v).regs = s.regs.set r v := rfl
@[simp] theorem writeReg_pc (s : State) (r : Nat) (v : Word) : (writeReg s r v).pc = s.pc := rfl
@[simp] theorem writeReg_excn (s : State) (r : Nat) (v : Word) : (writeReg s r v).excn = s.excn := rfl
@[simp] theorem writeReg_flags (s : State) (r : Nat) (v : Word) : (writeReg s r v).flags = s.flags := rfl
@[simp] theorem writeReg_mirrorflags (s : State) (r : Nat) (v : Word) : (writeReg s r v).mirrorflags = s.mirrorflags := rfl
@[simp] theorem writeReg_xaddr (s : State) (r : Nat) (v : Word) : (writeReg s r v).xaddr = s.xaddr := rfl
@[simp] theorem writeReg_mirrorxaddr (s : State) (r : Nat) (v : Word) : (writeReg s r v).mirrorxaddr = s.mirrorxaddr := rfl
@[simp] theorem writeReg_timer0 (s : State) (r : Nat) (v : Word) : (writeReg s r v).timer0 = s.timer0 := rfl
@[simp] theorem writeReg_system0 (s : State) (r : Nat) (v : Word) : (writeReg s r v).system0 = s.system0 := rfl
@[simp] theorem writeReg_system1 (s : State) (r : Nat) (v : Word) : (writeReg s r v).system1 = s.system1 := rfl
@[simp] theorem writeReg_gpioaOut (s : State) (r : Nat) (v : Word) : (writeReg s r v).gpioaOut = s.gpioaOut := rfl
@[simp] theorem writeReg_procOut (s : State) (r : Nat) (v : Word) : (writeReg s r v).procOut = s.procOut := rfl
@[simp] theorem writeReg_mmuX (s : State) (r : Nat) (v : Word) : (writeReg s r v).mmuX = s.mmuX := rfl
@[simp] theorem writeReg_mmuY (s : State) (r : Nat) (v : Word) : (writeReg s r v).mmuY = s.mmuY := rfl
@[simp] theorem writeReg_overlord (s : State) (r : Nat) (v : Word) : (writeReg s r v).overlord = s.overlord := rfl
@[simp] theorem writeReg_mem (s : State) (r : Nat) (v : Word) : (writeReg s r v).mem = s.mem := rfl
@[simp] theorem writeReg_written (s : State) (r : Nat) (v : Word) : (writeReg s r v).written = s.written := rfl
@[simp] theorem writeReg_inputs (s : State) (r : Nat) (v : Word) : (writeReg s r v).inputs = s.inputs := rfl
@[simp] theorem writeReg_draws (s : State) (r : Nat) (v : Word) : (writeReg s r v).draws = s.draws := rfl
@[simp] theorem writeReg_outEvents (s : State) (r : Nat) (v : Word) : (writeReg s r v).outEvents = s.outEvents := rfl

/-! ### `advancePc` -/

@[simp] theorem advancePc_params (s : State) : (advancePc s).params = s.params := rfl
@[simp] theorem advancePc_regs (s : State) : (advancePc s).regs = s.regs := rfl
@[simp] theorem advancePc_pc (s : State) : (advancePc s).pc = toXlen s.params (s.pc + 4) := rfl
@[simp] theorem advancePc_excn (s : State) : (advancePc s).excn = s.excn := rfl
@[simp] theorem advancePc_flags (s : State) : (advancePc s).flags = s.flags := rfl
@[simp] theorem advancePc_mirrorflags (s : State) : (advancePc s).mirrorflags = s.mirrorflags := rfl
@[simp] theorem advancePc_xaddr (s : State) : (advancePc s).xaddr = s.xaddr := rfl
@[simp] theorem advancePc_mirrorxaddr (s : State) : (advancePc s).mirrorxaddr = s.mirrorxaddr := rfl
@[simp] theorem advancePc_timer0 (s : State) : (advancePc s).timer0 = s.timer0 := rfl
@[simp] theorem advancePc_system0 (s : State) : (advancePc s).system0 = s.system0 := rfl
@[simp] theorem advancePc_system1 (s : State) : (advancePc s).system1 = s.system1 := rfl
@[simp] theorem advancePc_gpioaOut (s : State) : (advancePc s).gpioaOut = s.gpioaOut := rfl
@[simp] theorem advancePc_procOut (s : State) : (advancePc s).procOut = s.procOut := rfl
@[simp] theorem advancePc_mmuX (s : State) : (advancePc s).mmuX = s.mmuX := rfl
@[simp] theorem advancePc_mmuY (s : State) : (advancePc s).mmuY = s.mmuY := rfl
@[simp] theorem advancePc_overlord (s : State) : (advancePc s).overlord = s.overlord := rfl
@[simp] theorem advancePc_mem (s : State) : (advancePc s).mem = s.mem := rfl
@[simp] theorem advancePc_written (s : State) : (advancePc s).written = s.written := rfl
@[simp] theorem advancePc_inputs (s : State) : (advancePc s).inputs = s.inputs := rfl
@[simp] theorem advancePc_draws (s : State) : (advancePc s).draws = s.draws := rfl
@[simp] theorem advancePc_outEvents (s : State) : (advancePc s).outEvents = s.outEvents := rfl

/-! ### `swapFlags` -/

@[simp] theorem swapFlags_params (s : State) : (swapFlags s).params = s.params := rfl
@[simp] theorem swapFlags_regs (s : State) : (swapFlags s).regs = s.regs := rfl
@[simp] theorem swapFlags_pc (s : State) : (swapFlags s).pc = s.pc := rfl
@[simp] theorem swapFlags_excn (s : State) : (swapFlags s).excn = s.excn := rfl
@[simp] theorem swapFlags_flags (s : State) : (swapFlags s).flags = s.mirrorflags := rfl
@[simp] theorem swapFlags_mirrorflags (s : State) : (swapFlags s).mirrorflags = s.flags := rfl
@[simp] theorem swapFlags_xaddr (s : State) : (swapFlags s).xaddr = s.xaddr := rfl
@[simp] theorem swapFlags_mirrorxaddr (s : State) : (swapFlags s).mirrorxaddr = s.mirrorxaddr := rfl
@[simp] theorem swapFlags_timer0 (s : State) : (swapFlags s).timer0 = s.timer0 := rfl
@[simp] theorem swapFlags_system0 (s : State) : (swapFlags s).system0 = s.system0 := rfl
@[simp] theorem swapFlags_system1 (s : State) : (swapFlags s).system1 = s.system1 := rfl
@[simp] theorem swapFlags_gpioaOut (s : State) : (swapFlags s).gpioaOut = s.gpioaOut := rfl
@[simp] theorem swapFlags_procOut (s : State) : (swapFlags s).procOut = s.procOut := rfl
@[simp] theorem swapFlags_mmuX (s : State) : (swapFlags s).mmuX = s.mmuX := rfl
@[simp] theorem swapFlags_mmuY (s : State) : (swapFlags s).mmuY = s.mmuY := rfl
@[simp] theorem swapFlags_overlord (s : State) : (swapFlags s).overlord = s.overlord := rfl
@[simp] theorem swapFlags_mem (s : State) : (swapFlags s).mem = s.mem := rfl
@[simp] theorem swapFlags_written (s : State) : (swapFlags s).written = s.written := rfl
@[simp] theorem swapFlags_inputs (s : State) : (swapFlags s).inputs = s.inputs := rfl
@[simp] theorem swapFlags_draws (s : State) : (swapFlags s).draws = s.draws := rfl
@[simp] theorem swapFlags_outEvents (s : State) : (swapFlags s).outEvents = s.outEvents := rfl

/-! ### `enterException` -/

@[simp] theorem enterException_params (k : ExcKind) (s : State) : (enterException k s).params = s.params := rfl
@[simp] theorem enterException_regs (k : ExcKind) (s : State) : (enterException k s).regs = s.regs := rfl
@[simp] theorem enterException_pc (k : ExcKind) (s : State) : (enterException k s).pc = s.xaddr := rfl
@[simp] theorem enterException_excn (k : ExcKind) (s : State) : (enterException k s).excn = toXlen s.params (Config.excCode k) := rfl
@[simp] theorem enterException_flags (k : ExcKind) (s : State) : (enterException k s).flags = s.mirrorflags := rfl
@[simp] theorem enterException_mirrorflags (k : ExcKind) (s : State) : (enterException k s).mirrorflags = s.flags := rfl
@[simp] theorem enterException_xaddr (k : ExcKind) (s : State) : (enterException k s).xaddr = s.xaddr := rfl
@[simp] theorem enterException_mirrorxaddr (k : ExcKind) (s : State) : (enterException k s).mirrorxaddr = s.pc := rfl
@[simp] theorem enterException_timer0 (k : ExcKind) (s : State) : (enterException k s).timer0 = { s.timer0 with dingdong := dingdongAfterEntry k s.timer0.dingdong } := rfl
@[simp] theorem enterException_system0 (k : ExcKind) (s : State) : (enterException k s).system0 = s.system0 := rfl
@[simp] theorem enterException_system1 (k : ExcKind) (s : State) : (enterException k s).system1 = s.system1 := rfl
@[simp] theorem enterException_gpioaOut (k : ExcKind) (s : State) : (enterException k s).gpioaOut = s.gpioaOut := rfl
@[simp] theorem enterException_procOut (k : ExcKind) (s : State) : (enterException k s).procOut = s.procOut := rfl
@[simp] theorem enterException_mmuX (k : ExcKind) (s : State) : (enterException k s).mmuX = s.mmuX := rfl
@[simp] theorem enterException_mmuY (k : ExcKind) (s : State) : (enterException k s).mmuY = s.mmuY := rfl
@[simp] theorem enterException_overlord (k : ExcKind) (s : State) : (enterException k s).overlord = s.overlord := rfl
@[simp] theorem enterException_mem (k : ExcKind) (s : State) : (enterException k s).mem = s.mem := rfl
@[simp] theorem enterException_written (k : ExcKind) (s : State) : (enterException k s).written = { s.written with mirrorxaddr := true } := rfl
@[simp] theorem enterException_inputs (k : ExcKind) (s : State) : (enterException k s).inputs = s.inputs := rfl
@[simp] theorem enterException_draws (k : ExcKind) (s : State) : (enterException k s).draws = s.draws := rfl
@[simp] theorem enterException_outEvents (k : ExcKind) (s : State) : (enterException k s).outEvents = s.outEvents := rfl

/-! ### `returnFromException` -/

@[simp] theorem returnFromException_params (s : State) : (returnFromException s).params = s.params := rfl
@[simp] theorem returnFromException_regs (s : State) : (returnFromException s).regs = s.regs := rfl
@[simp] theorem returnFromException_pc (s : State) : (returnFromException s).pc = s.mirrorxaddr := rfl
@[simp] theorem returnFromException_excn (s : State) : (returnFromException s).excn = s.excn := rfl
@[simp] theorem returnFromException_flags (s : State) : (returnFromException s).flags = s.mirrorflags := rfl
@[simp] theorem returnFromException_mirrorflags (s : State) : (returnFromException s).mirrorflags = s.flags := rfl
@[simp] theorem returnFromException_xaddr (s : State) : (returnFromException s).xaddr = s.xaddr := rfl
@[simp] theorem returnFromException_mirrorxaddr (s : State) : (returnFromException s).mirrorxaddr = s.mirrorxaddr := rfl
@[simp] theorem returnFromException_timer0 (s : State) : (returnFromException s).timer0 = s.timer0 := rfl
@[simp] theorem returnFromException_system0 (s : State) : (returnFromException s).system0 = s.system0 := rfl
@[simp] theorem returnFromException_system1 (s : State) : (returnFromException s).system1 = s.system1 := rfl
@[simp] theorem returnFromException_gpioaOut (s : State) : (returnFromException s).gpioaOut = s.gpioaOut := rfl
@[simp] theorem returnFromException_procOut (s : State) : (returnFromException s).procOut = s.procOut := rfl
@[simp] theorem returnFromException_mmuX (s : State) : (returnFromException s).mmuX = s.mmuX := rfl
@[simp] theorem returnFromException_mmuY (s : State) : (returnFromException s).mmuY = s.mmuY := rfl
@[simp] theorem returnFromException_overlord (s : State) : (returnFromException s).overlord = s.overlord := rfl
@[simp] theorem returnFromException_mem (s : State) : (returnFromException s).mem = s.mem := rfl
@[simp] theorem returnFromException_written (s : State) : (returnFromException s).written = s.written := rfl
@[simp] theorem returnFromException_inputs (s : State) : (returnFromException s).inputs = s.inputs := rfl
@[simp] theorem returnFromException_draws (s : State) : (returnFromException s).draws = s.draws := rfl
@[simp] theorem returnFromException_outEvents (s : State) : (returnFromException s).outEvents = s.outEvents := rfl

/-! ### `sampleInputs` -/

@[simp] theorem sampleInputs_params (s : State) : (sampleInputs s).params = s.params := rfl
@[simp] theorem sampleInputs_regs (s : State) : (sampleInputs s).regs = s.regs := rfl
@[simp] theorem sampleInputs_pc (s : State) : (sampleInputs s).pc = s.pc := rfl
@[simp] theorem sampleInputs_excn (s : State) : (sampleInputs s).excn = s.excn := rfl
@[simp] theorem sampleInputs_flags (s : State) : (sampleInputs s).flags = s.flags := rfl
@[simp] theorem sampleInputs_mirrorflags (s : State) : (sampleInputs s).mirrorflags = s.mirrorflags := rfl
@[simp] theorem sampleInputs_xaddr (s : State) : (sampleInputs s).xaddr = s.xaddr := rfl
@[simp] theorem sampleInputs_mirrorxaddr (s : State) : (sampleInputs s).mirrorxaddr = s.mirrorxaddr := rfl
@[simp] theorem sampleInputs_timer0 (s : State) : (sampleInputs s).timer0 = s.timer0 := rfl
@[simp] theorem sampleInputs_system0 (s : State) : (sampleInputs s).system0 = s.system0 := rfl
@[simp] theorem sampleInputs_system1 (s : State) : (sampleInputs s).system1 = s.system1 := rfl
@[simp] theorem sampleInputs_gpioaOut (s : State) : (sampleInputs s).gpioaOut = s.gpioaOut := rfl
@[simp] theorem sampleInputs_procOut (s : State) : (sampleInputs s).procOut = s.procOut := rfl
@[simp] theorem sampleInputs_mmuX (s : State) : (sampleInputs s).mmuX = s.mmuX := rfl
@[simp] theorem sampleInputs_mmuY (s : State) : (sampleInputs s).mmuY = s.mmuY := rfl
@[simp] theorem sampleInputs_overlord (s : State) : (sampleInputs s).overlord = s.overlord := rfl
@[simp] theorem sampleInputs_mem (s : State) : (sampleInputs s).mem = s.mem := rfl
@[simp] theorem sampleInputs_written (s : State) : (sampleInputs s).written = s.written := rfl
@[simp] theorem sampleInputs_inputs (s : State) : (sampleInputs s).inputs = Config.drawInputs s.draws := rfl
@[simp] theorem sampleInputs_draws (s : State) : (sampleInputs s).draws = s.draws + 1 := rfl
@[simp] theorem sampleInputs_outEvents (s : State) : (sampleInputs s).outEvents = s.outEvents := rfl

/-! ### `emit` -/

@[simp] theorem emit_params (e : OutEvent) (s : State) : (emit e s).params = s.params := rfl
@[simp] theorem emit_regs (e : OutEvent) (s : State) : (emit e s).regs = s.regs := rfl
@[simp] theorem emit_pc (e : OutEvent) (s : State) : (emit e s).pc = s.pc := rfl
@[simp] theorem emit_excn (e : OutEvent) (s : State) : (emit e s).excn = s.excn := rfl
@[simp] theorem emit_flags (e : OutEvent) (s : State) : (emit e s).flags = s.flags := rfl
@[simp] theorem emit_mirrorflags (e : OutEvent) (s : State) : (emit e s).mirrorflags = s.mirrorflags := rfl
@[simp] theorem emit_xaddr (e : OutEvent) (s : State) : (emit e s).xaddr = s.xaddr := rfl
@[simp] theorem emit_mirrorxaddr (e : OutEvent) (s : State) : (emit e s).mirrorxaddr = s.mirrorxaddr := rfl
@[simp] theorem emit_timer0 (e : OutEvent) (s : State) : (emit e s).timer0 = s.timer0 := rfl
@[simp] theorem emit_system0 (e : OutEvent) (s : State) : (emit e s).system0 = s.system0 := rfl
@[simp] theorem emit_system1 (e : OutEvent) (s : State) : (emit e s).system1 = s.system1 := rfl
@[simp] theorem emit_gpioaOut (e : OutEvent) (s : State) : (emit e s).gpioaOut = s.gpioaOut := rfl
@[simp] theorem emit_procOut (e : OutEvent) (s : State) : (emit e s).procOut = s.procOut := rfl
@[simp] theorem emit_mmuX (e : OutEvent) (s : State) : (emit e s).mmuX = s.mmuX := rfl
@[simp] theorem emit_mmuY (e : OutEvent) (s : State) : (emit e s).mmuY = s.mmuY := rfl
@[simp] theorem emit_overlord (e : OutEvent) (s : State) : (emit e s).overlord = s.overlord := rfl
@[simp] theorem emit_mem (e : OutEvent) (s : State) : (emit e s).mem = s.mem := rfl
@[simp] theorem emit_written (e : OutEvent) (s : State) : (emit e s).written = s.written := rfl
@[simp] theorem emit_inputs (e : OutEvent) (s : State) : (emit e s).inputs = s.inputs := rfl
@[simp] theorem emit_draws (e : OutEvent) (s : State) : (emit e s).draws = s.draws := rfl
@[simp] theorem emit_outEvents (e : OutEvent) (s : State) : (emit e s).outEvents = e :: s.outEvents := rfl

/-! ### `timerTick` -/

@[simp] theorem timerTick_params (s : State) : (timerTick s).params = s.params := rfl
@[simp] theorem timerTick_regs (s : State) : (timerTick s).regs = s.regs := rfl
@[simp] theorem timerTick_pc (s : State) : (timerTick s).pc = s.pc := rfl
@[simp] theorem timerTick_excn (s : State) : (timerTick s).excn = s.excn := rfl
@[simp] theorem timerTick_flags (s : State) : (timerTick s).flags = s.flags := rfl
@[simp] theorem timerTick_mirrorflags (s : State) : (timerTick s).mirrorflags = s.mirrorflags := rfl
@[simp] theorem timerTick_xaddr (s : State) : (timerTick s).xaddr = s.xaddr := rfl
@[simp] theorem timerTick_mirrorxaddr (s : State) : (timerTick s).mirrorxaddr = s.mirrorxaddr := rfl
@[simp] theorem timerTick_timer0 (s : State) : (timerTick s).timer0 = { s.timer0 with count := if forgetNow s then 0 else tickedCount s, dingdong := s.timer0.dingdong || alarmNow s } := rfl
@[simp] theorem timerTick_system0 (s : State) : (timerTick s).system0 = s.system0 := rfl
@[simp] theorem timerTick_system1 (s : State) : (timerTick s).system1 = s.system1 := rfl
@[simp] theorem timerTick_gpioaOut (s : State) : (timerTick s).gpioaOut = s.gpioaOut := rfl
@[simp] theorem timerTick_procOut (s : State) : (timerTick s).procOut = s.procOut := rfl
@[simp] theorem timerTick_mmuX (s : State) : (timerTick s).mmuX = s.mmuX := rfl
@[simp] theorem timerTick_mmuY (s : State) : (timerTick s).mmuY = s.mmuY := rfl
@[simp] theorem timerTick_overlord (s : State) : (timerTick s).overlord = s.overlord := rfl
@[simp] theorem timerTick_mem (s : State) : (timerTick s).mem = s.mem := rfl
@[simp] theorem timerTick_written (s : State) : (timerTick s).written = s.written := rfl
@[simp] theorem timerTick_inputs (s : State) : (timerTick s).inputs = s.inputs := rfl
@[simp] theorem timerTick_draws (s : State) : (timerTick s).draws = s.draws := rfl
@[simp] theorem timerTick_outEvents (s : State) : (timerTick s).outEvents = s.outEvents := rfl

/-! ### `memWriteBytes` -/

@[simp] theorem memWriteBytes_params (s : State) (pa : Word) (bytes : List Byte) : (memWriteBytes s pa bytes).params = s.params := rfl
@[simp] theorem memWriteBytes_regs (s : State) (pa : Word) (bytes : List Byte) : (memWriteBytes s pa bytes).regs = s.regs := rfl
@[simp] theorem memWriteBytes_pc (s : State) (pa : Word) (bytes : List Byte) : (memWriteBytes s pa bytes).pc = s.pc := rfl
@[simp] theorem memWriteBytes_excn (s : State) (pa : Word) (bytes : List Byte) : (memWriteBytes s pa bytes).excn = s.excn := rfl
@[simp] theorem memWriteBytes_flags (s : State) (pa : Word) (bytes : List Byte) : (memWriteBytes s pa bytes).flags = s.flags := rfl
@[simp] theorem memWriteBytes_mirrorflags (s : State) (pa : Word) (bytes : List Byte) : (memWriteBytes s pa bytes).mirrorflags = s.mirrorflags := rfl
@[simp] theorem memWriteBytes_xaddr (s : State) (pa : Word) (bytes : List Byte) : (memWriteBytes s pa bytes).xaddr = s.xaddr := rfl
@[simp] theorem memWriteBytes_mirrorxaddr (s : State) (pa : Word) (bytes : List Byte) : (memWriteBytes s pa bytes).mirrorxaddr = s.mirrorxaddr := rfl
@[simp] theorem memWriteBytes_timer0 (s : State) (pa : Word) (bytes : List Byte) : (memWriteBytes s pa bytes).timer0 = s.timer0 := rfl
@[simp] theorem memWriteBytes_system0 (s : State) (pa : Word) (bytes : List Byte) : (memWriteBytes s pa bytes).system0 = s.system0 := rfl
@[simp] theorem memWriteBytes_system1 (s : State) (pa : Word) (bytes : List Byte) : (memWriteBytes s pa bytes).system1 = s.system1 := rfl
@[simp] theorem memWriteBytes_gpioaOut (s : State) (pa : Word) (bytes : List Byte) : (memWriteBytes s pa bytes).gpioaOut = s.gpioaOut := rfl
@[simp] theorem memWriteBytes_procOut (s : State) (pa : Word) (bytes : List Byte) : (memWriteBytes s pa bytes).procOut = s.procOut := rfl
@[simp] theorem memWriteBytes_mmuX (s : State) (pa : Word) (bytes : List Byte) : (memWriteBytes s pa bytes).mmuX = s.mmuX := rfl
@[simp] theorem memWriteBytes_mmuY (s : State) (pa : Word) (bytes : List Byte) : (memWriteBytes s pa bytes).mmuY = s.mmuY := rfl
@[simp] theorem memWriteBytes_overlord (s : State) (pa : Word) (bytes : List Byte) : (memWriteBytes s pa bytes).overlord = s.overlord := rfl
@[simp] theorem memWriteBytes_mem (s : State) (pa : Word) (bytes : List Byte) : (memWriteBytes s pa bytes).mem = memWriteFrom s.params s.mem pa 0 bytes := rfl
@[simp] theorem memWriteBytes_written (s : State) (pa : Word) (bytes : List Byte) : (memWriteBytes s pa bytes).written = s.written := rfl
@[simp] theorem memWriteBytes_inputs (s : State) (pa : Word) (bytes : List Byte) : (memWriteBytes s pa bytes).inputs = s.inputs := rfl
@[simp] theorem memWriteBytes_draws (s : State) (pa : Word) (bytes : List Byte) : (memWriteBytes s pa bytes).draws = s.draws := rfl
@[simp] theorem memWriteBytes_outEvents (s : State) (pa : Word) (bytes : List Byte) : (memWriteBytes s pa bytes).outEvents = s.outEvents := rfl

/-! ### `applyReset` -/

@[simp] theorem applyReset_params (s : State) : (s.applyReset).params = s.params := rfl
@[simp] theorem applyReset_regs (s : State) : (s.applyReset).regs = s.regs := rfl
@[simp] theorem applyReset_pc (s : State) : (s.applyReset).pc = s.params.resetPc := rfl
@[simp] theorem applyReset_excn (s : State) : (s.applyReset).excn = s.excn := rfl
@[simp] theorem applyReset_flags (s : State) : (s.applyReset).flags = resetFlags := rfl
@[simp] theorem applyReset_mirrorflags (s : State) : (s.applyReset).mirrorflags = s.mirrorflags := rfl
@[simp] theorem applyReset_xaddr (s : State) : (s.applyReset).xaddr = s.xaddr := rfl
@[simp] theorem applyReset_mirrorxaddr (s : State) : (s.applyReset).mirrorxaddr = s.mirrorxaddr := rfl
@[simp] theorem applyReset_timer0 (s : State) : (s.applyReset).timer0 = { s.timer0 with alarmEn := false, forgetEn := false, dingdong := false } := rfl
@[simp] theorem applyReset_system0 (s : State) : (s.applyReset).system0 = s.system0 := rfl
@[simp] theorem applyReset_system1 (s : State) : (s.applyReset).system1 = s.system1 := rfl
@[simp] theorem applyReset_gpioaOut (s : State) : (s.applyReset).gpioaOut = 0 := rfl
@[simp] theorem applyReset_procOut (s : State) : (s.applyReset).procOut = s.procOut := rfl
@[simp] theorem applyReset_mmuX (s : State) : (s.applyReset).mmuX = s.mmuX := rfl
@[simp] theorem applyReset_mmuY (s : State) : (s.applyReset).mmuY = s.mmuY := rfl
@[simp] theorem applyReset_overlord (s : State) : (s.applyReset).overlord = s.overlord := rfl
@[simp] theorem applyReset_mem (s : State) : (s.applyReset).mem = s.mem := rfl
@[simp] theorem applyReset_written (s : State) : (s.applyReset).written = ⟨false, false, false⟩ := rfl
@[simp] theorem applyReset_inputs (s : State) : (s.applyReset).inputs = s.inputs := rfl
@[simp] theorem applyReset_draws (s : State) : (s.applyReset).draws = s.draws := rfl
@[simp] theorem applyReset_outEvents (s : State) : (s.applyReset).outEvents = s.outEvents := rfl

/-! ### `timer0Write` -/

@[simp] theorem timer0Write_alarmEn (v : Word) (t : Timer0) : (timer0Write v t).alarmEn = v.getLsbD 1 := rfl
@[simp] theorem timer0Write_forgetEn (v : Word) (t : Timer0) : (timer0Write v t).forgetEn = v.getLsbD 2 := rfl
@[simp] theorem timer0Write_alarmSh (v : Word) (t : Timer0) : (timer0Write v t).alarmSh = v.extractLsb' 8 4 := rfl
@[simp] theorem timer0Write_forgetSh (v : Word) (t : Timer0) : (timer0Write v t).forgetSh = v.extractLsb' 16 4 := rfl

end Sys2Proof.Machine
end

