-- ==== Sys2Proof/Laws/Ops.lean ====
section
/-! SUPPORT. One lemma per shared operation that says what it can do; proofs cite these and do not unfold the operations. -/

namespace Sys2Proof.Machine

/-! ## Bits -/

theorem lowBits_toNat (n : Nat) (v : Word) (hn : n ≤ 64) : (lowBits n v).toNat = v.toNat % 2 ^ n := by
  have h : v.toNat % 2 ^ n < 2 ^ 64 :=
    lt_of_lt_of_le (Nat.mod_lt _ (Nat.two_pow_pos n)) (Nat.pow_le_pow_right (by decide) hn)
  simp only [lowBits, BitVec.toNat_setWidth]
  exact Nat.mod_eq_of_lt h

theorem xlen_bits_le (p : Params) : p.xlen.bits ≤ 64 := by
  cases p.xlen <;> decide

theorem toXlen_toNat (p : Params) (v : Word) : (toXlen p v).toNat = v.toNat % 2 ^ p.xlen.bits :=
  lowBits_toNat _ _ (xlen_bits_le p)

theorem toXlen_fits (p : Params) (v : Word) : FitsXlen p (toXlen p v) := by
  rw [FitsXlen, toXlen_toNat]
  exact Nat.mod_lt _ (Nat.two_pow_pos _)

theorem toXlen_of_fits {p : Params} {v : Word} (h : FitsXlen p v) : toXlen p v = v := by
  apply BitVec.eq_of_toNat_eq
  rw [toXlen_toNat, Nat.mod_eq_of_lt h]

/-! ## Memory -/

theorem memRead_cons (c : Host.Cell) (m : Memory) (x : Nat) :
    memRead (c :: m) x = if x = c.1 then some c.2 else memRead m x := by
  by_cases h : x = c.1
  · simp [memRead, List.lookup, h]
  · have e : (x == c.1) = false := by simpa using h
    simp only [memRead, List.lookup, e, if_neg h]

/-- A read after a write gives the byte written at its address and what was there everywhere else. -/
theorem memRead_memWrite (m : Memory) (a x : Nat) (b : Byte) :
    memRead (memWrite m a b) x = if x = a then some b else memRead m x := by
  induction m with
  | nil => exact memRead_cons _ _ _
  | cons c rest ih =>
    unfold memWrite
    split
    · exact memRead_cons _ _ _
    · split
      · next h => by_cases hx : x = c.1 <;> simp [memRead_cons, h, hx]
      · next h => by_cases hx : x = c.1 <;> simp_all [memRead_cons, eq_comm]

theorem mem_memWrite {m : Memory} {a : Nat} {b : Byte} {c : Host.Cell} (h : c ∈ memWrite m a b) :
    c = (a, b) ∨ c ∈ m := by
  induction m with
  | nil => simpa [memWrite] using h
  | cons d rest ih =>
    unfold memWrite at h
    split at h
    · simpa using h
    · split at h
      · rcases List.mem_cons.1 h with h | h
        · exact .inl h
        · exact .inr (List.mem_cons_of_mem _ h)
      · rcases List.mem_cons.1 h with h | h
        · exact .inr (h ▸ List.mem_cons_self)
        · exact (ih h).imp id (List.mem_cons_of_mem _)

/-- Writing a byte keeps the canonical form. -/
theorem memWrite_wf {m : Memory} (h : Memory.wf m) (a : Nat) (b : Byte) : Memory.wf (memWrite m a b) := by
  induction m with
  | nil => simp [memWrite]
  | cons c rest ih =>
    have hc : ∀ d ∈ rest, c.1 < d.1 := (List.pairwise_cons.1 h).1
    have hr := (List.pairwise_cons.1 h).2
    unfold memWrite
    split
    · next hlt =>
      refine List.pairwise_cons.2 ⟨fun d hd => ?_, h⟩
      rcases List.mem_cons.1 hd with rfl | hd
      · exact hlt
      · exact lt_trans hlt (hc d hd)
    · split
      · next heq => exact List.pairwise_cons.2 ⟨fun d hd => heq ▸ hc d hd, hr⟩
      · next hle hne =>
        refine List.pairwise_cons.2 ⟨fun d hd => ?_, ih hr⟩
        rcases mem_memWrite hd with rfl | hd
        · simp only; omega
        · exact hc d hd

/-- Writing several bytes keeps the canonical form. -/
theorem memWriteFrom_wf (p : Params) (pa : Word) (bytes : List Byte) :
    ∀ {m : Memory} (_ : Memory.wf m) (k : Nat), Memory.wf (memWriteFrom p m pa k bytes) := by
  induction bytes with
  | nil => exact fun h _ => h
  | cons b rest ih => exact fun h k => ih (memWrite_wf h _ b) (k + 1)

/-- Writing several bytes stays inside the address space. -/
theorem memWriteFrom_space (p : Params) (pa : Word) (bytes : List Byte) :
    ∀ {m : Memory} (_ : ∀ c ∈ m, c.1 < 2 ^ p.xlen.bits) (k : Nat),
      ∀ c ∈ memWriteFrom p m pa k bytes, c.1 < 2 ^ p.xlen.bits := by
  induction bytes with
  | nil => exact fun h _ => h
  | cons b rest ih =>
    intro m h k
    refine ih (fun c hc => ?_) (k + 1)
    rcases mem_memWrite hc with rfl | hc
    · exact Nat.mod_lt _ (Nat.two_pow_pos _)
    · exact h c hc

/-- Bytes outside the ones written read as before. -/
theorem memRead_memWriteFrom_other (p : Params) (pa : Word) (x : Nat) (bytes : List Byte) :
    ∀ (m : Memory) (k : Nat) (_ : ∀ j, k ≤ j → j < k + bytes.length → x ≠ byteAddr p pa j),
      memRead (memWriteFrom p m pa k bytes) x = memRead m x := by
  induction bytes with
  | nil => exact fun _ _ _ => rfl
  | cons b rest ih =>
    intro m k h
    have hx : x ≠ byteAddr p pa k := h k le_rfl (by simp)
    rw [memWriteFrom, ih _ _ (fun j h1 h2 => h j (by omega) (by simp only [List.length_cons]; omega)),
      memRead_memWrite, if_neg hx]

/-- The bytes of an access of at most 2^XLEN bytes have different addresses. -/
theorem byteAddr_inj {p : Params} {pa : Word} {j k : Nat} (hj : j < 2 ^ p.xlen.bits) (hk : k < 2 ^ p.xlen.bits)
    (h : byteAddr p pa j = byteAddr p pa k) : j = k := by
  have h' : j ≡ k [MOD 2 ^ p.xlen.bits] := Nat.ModEq.add_left_cancel' _ h
  rwa [Nat.ModEq, Nat.mod_eq_of_lt hj, Nat.mod_eq_of_lt hk] at h'

theorem memReadByte_ok {s : State} {pa : Word} {k : Nat} {b : Byte}
    (h : memRead s.mem (byteAddr s.params pa k) = some b) : memReadByte s pa k = .ok b := by
  simp [memReadByte, h]

/-- Four bytes that memory holds make the word at an address. -/
theorem wordAt_ok {s : State} {pa : Word} {b0 b1 b2 b3 : Byte}
    (h0 : memRead s.mem (byteAddr s.params pa 0) = some b0) (h1 : memRead s.mem (byteAddr s.params pa 1) = some b1)
    (h2 : memRead s.mem (byteAddr s.params pa 2) = some b2) (h3 : memRead s.mem (byteAddr s.params pa 3) = some b3) :
    wordAt s pa = .ok (seenWord s b0 b1 b2 b3) := by
  simp only [wordAt, memReadByte_ok h0, memReadByte_ok h1, memReadByte_ok h2, memReadByte_ok h3]
  rfl

/-! ## Exceptions -/

theorem raiseException_on {k : ExcKind} {s : State} (h : flagExcnenable s.flags = true) (hr : EntryReady s) :
    raiseException k s = .next (enterException k s) := by
  simp [raiseException, h, hr]

theorem raiseException_unset {k : ExcKind} {s : State} (h : flagExcnenable s.flags = true) (hr : entryReady s = false) :
    raiseException k s = .refused (.handlerUnset k) := by
  simp [raiseException, h, hr]

theorem raiseException_off {k : ExcKind} {s : State} (h : flagExcnenable s.flags = false) :
    raiseException k s = .fault (.exceptionsDisabled k) := by
  simp [raiseException, h]

/-- Raising an exception goes on only by taking it. -/
theorem raiseException_next {k : ExcKind} {s t : State} (h : raiseException k s = .next t) :
    flagExcnenable s.flags = true ∧ EntryReady s ∧ t = enterException k s := by
  unfold raiseException at h
  split at h
  · split at h
    · exact ⟨‹_›, ‹_›, by injection h with h; exact h.symm⟩
    · cases h
  · cases h

/-- A stop that goes on takes an exception. -/
theorem stopOutcome_next {e : Stop} {s t : State} (h : stopOutcome e s = .next t) :
    ∃ k, e = .raise k ∧ flagExcnenable s.flags = true ∧ EntryReady s ∧ t = enterException k s := by
  cases e with
  | raise k => exact ⟨k, rfl, raiseException_next h⟩
  | fault f => cases h
  | refuse r => cases h

/-! ## General registers -/

/-- A register that the machine has reads as what was written to it, and every other register as before. -/
theorem readReg_writeReg {s : State} {r : Nat} (x : Nat) (v : Word) (h : r < s.regs.length) :
    readReg (writeReg s r v) x = if x = r then v else readReg s x := by
  by_cases hx : x = r
  · simp [readReg, hx, h]
  · simp [readReg, hx, List.getElem?_set_ne (Ne.symm hx)]

/-- An accessible register is one the machine has. -/
theorem regAccessible_lt {s : State} {r : Nat} (h : regAccessible s r = true) : r < s.params.numGpr := by
  simp only [regAccessible, Bool.and_eq_true, decide_eq_true_eq] at h
  exact h.2

/-! ## The checks of a control-register access -/

/-- An access passes its checks exactly when it is allowed, its register is accessible and its number has a register. -/
theorem preChecks_ok_iff {r cn : Nat} {dir : Dir} {s : State} {reg : CtrlReg} :
    preChecks r cn dir s = .ok reg ↔
      ctrlAllowed s cn dir = true ∧ regAccessible s r = true ∧ ctrlRegOf s.params cn = some reg := by
  unfold preChecks
  cases ctrlAllowed s cn dir <;> cases regAccessible s r <;> cases ctrlRegOf s.params cn <;> simp

/-- A failed check raises a privilege or a register-protection exception, or refuses an unassigned number. -/
theorem preChecks_error {r cn : Nat} {dir : Dir} {s : State} {e : Stop} (h : preChecks r cn dir s = .error e) :
    (e = .raise .priv ∧ ctrlAllowed s cn dir = false) ∨
    (e = .raise .regprot ∧ ctrlAllowed s cn dir = true ∧ regAccessible s r = false) ∨
    (e = .refuse (.unassignedControlRegister cn) ∧ ctrlAllowed s cn dir = true ∧ regAccessible s r = true ∧
      ctrlRegOf s.params cn = none) := by
  revert h
  unfold preChecks
  cases ctrlAllowed s cn dir <;> cases regAccessible s r <;> cases ctrlRegOf s.params cn <;> simp [eq_comm]

/-- A read whose checks pass writes its register and the program counter, and nothing else. -/
theorem readCtrl_ok {rd cn : Nat} {s : State} {reg : CtrlReg} (h : ReadPasses s rd cn) (hr : ctrlRegOf s.params cn = some reg) :
    readCtrl rd cn s = .next (afterRead s rd (ctrlRead reg s)) := by
  simp only [readCtrl, preChecks_ok_iff.2 ⟨h.1, h.2, hr⟩]
  rfl

/-- What a read that goes on can do. -/
theorem readCtrl_next {rd cn : Nat} {s t : State} (h : readCtrl rd cn s = .next t) :
    (∃ reg, ReadPasses s rd cn ∧ ctrlRegOf s.params cn = some reg ∧ t = afterRead s rd (ctrlRead reg s)) ∨
    (∃ k, (k = .priv ∨ k = .regprot) ∧ flagExcnenable s.flags = true ∧ EntryReady s ∧ t = enterException k s) := by
  unfold readCtrl at h
  split at h
  · next e he =>
    obtain ⟨k, rfl, hx, hr, rfl⟩ := stopOutcome_next h
    refine .inr ⟨k, ?_, hx, hr, rfl⟩
    rcases preChecks_error he with ⟨h, -⟩ | ⟨h, -⟩ | ⟨h, -⟩ <;> simp_all
  · next reg hreg =>
    obtain ⟨h1, h2, h3⟩ := preChecks_ok_iff.1 hreg
    injection h with h
    exact .inl ⟨reg, ⟨h1, h2⟩, h3, h.symm⟩

/-- A write whose checks pass has its register's effect and advances the program counter. -/
theorem writeCtrl_ok {cn rs : Nat} {s t : State} {reg : CtrlReg} (h : WritePasses s rs cn) (hr : ctrlRegOf s.params cn = some reg)
    (ht : ctrlWrite reg (readReg s rs) s = .ok t) : writeCtrl cn rs s = .next (advancePc t) := by
  simp only [writeCtrl, preChecks_ok_iff.2 ⟨h.1, h.2, hr⟩, ht]

/-- A write whose checks pass and that the spec refuses. -/
theorem writeCtrl_refused {cn rs : Nat} {s : State} {reg : CtrlReg} {r : Refusal} (h : WritePasses s rs cn)
    (hr : ctrlRegOf s.params cn = some reg) (ht : ctrlWrite reg (readReg s rs) s = .error r) :
    writeCtrl cn rs s = .refused r := by
  simp only [writeCtrl, preChecks_ok_iff.2 ⟨h.1, h.2, hr⟩, ht]

/-- What a write that goes on can do. -/
theorem writeCtrl_next {cn rs : Nat} {s t : State} (h : writeCtrl cn rs s = .next t) :
    (∃ reg u, WritePasses s rs cn ∧ ctrlRegOf s.params cn = some reg ∧ ctrlWrite reg (readReg s rs) s = .ok u ∧
      t = advancePc u) ∨
    (∃ k, (k = .priv ∨ k = .regprot) ∧ flagExcnenable s.flags = true ∧ EntryReady s ∧ t = enterException k s) := by
  unfold writeCtrl at h
  split at h
  · next e he =>
    obtain ⟨k, rfl, hx, hr, rfl⟩ := stopOutcome_next h
    refine .inr ⟨k, ?_, hx, hr, rfl⟩
    rcases preChecks_error he with ⟨h, -⟩ | ⟨h, -⟩ | ⟨h, -⟩ <;> simp_all
  · next reg hreg =>
    obtain ⟨h1, h2, h3⟩ := preChecks_ok_iff.1 hreg
    split at h
    · cases h
    · next u hu =>
      injection h with h
      exact .inl ⟨reg, u, ⟨h1, h2⟩, h3, hu, h.symm⟩

/-! ## The instructions and the step -/

/-- Every instruction is `MODESWITCH`, a read or a write of a numbered control register. -/
theorem exec_eq_access (i : Instr) (s : State) :
    exec i s =
      match accessOf i with
      | none => execModeswitch s
      | some (r, cn, .read) => readCtrl r cn s
      | some (r, cn, .write) => writeCtrl cn r s := by
  cases i <;> rfl

/-- What an instruction that goes on can do: take an exception, switch modes, read or write a control register. -/
theorem exec_next {i : Instr} {s t : State} (h : exec i s = .next t) :
    (∃ k, (k = .priv ∨ k = .regprot) ∧ flagExcnenable s.flags = true ∧ EntryReady s ∧ t = enterException k s) ∨
    (accessOf i = none ∧ flagSysmode s.flags = true ∧ ReturnReady s ∧ t = returnFromException s) ∨
    (∃ rd cn reg, accessOf i = some (rd, cn, .read) ∧ ReadPasses s rd cn ∧ ctrlRegOf s.params cn = some reg ∧
      t = afterRead s rd (ctrlRead reg s)) ∨
    (∃ rs cn reg u, accessOf i = some (rs, cn, .write) ∧ WritePasses s rs cn ∧ ctrlRegOf s.params cn = some reg ∧
      ctrlWrite reg (readReg s rs) s = .ok u ∧ t = advancePc u) := by
  rw [exec_eq_access] at h
  split at h
  · next ha =>
    unfold execModeswitch at h
    split at h
    · next hs =>
      split at h
      · next hr => injection h with h; exact .inr (.inl ⟨ha, hs, hr, h.symm⟩)
      · cases h
    · exact .inl ⟨.priv, .inl rfl, raiseException_next h⟩
  · next r cn ha =>
    rcases readCtrl_next h with ⟨reg, h1, h2, h3⟩ | h
    · exact .inr (.inr (.inl ⟨r, cn, reg, ha, h1, h2, h3⟩))
    · exact .inl h
  · next r cn ha =>
    rcases writeCtrl_next h with ⟨reg, u, h1, h2, h3, h4⟩ | h
    · exact .inr (.inr (.inr ⟨r, cn, reg, u, ha, h1, h2, h3, h4⟩))
    · exact .inl h

/-- An asynchronous exception is taken only with exceptions enabled (60_exceptions.md R166). -/
theorem asyncRequest_enabled {alarm : Bool} {s : State} {k : ExcKind} (h : asyncRequest alarm s = some k) :
    flagExcnenable s.flags = true := by
  unfold asyncRequest at h
  split at h
  · next hx => exact hx
  · cases h

/-- What a step that goes on can do: take an asynchronous exception, take one on the way to the instruction, or execute the
instruction, each after the tick and before the environment's next sample. -/
theorem step_next {s t : State} (h : step s = .next t) :
    ∃ u, t = sampleInputs u ∧
      ((∃ k, asyncRequest (alarmNow s) (timerTick s) = some k ∧ EntryReady s ∧ u = enterException k (timerTick s)) ∨
       (∃ k, asyncRequest (alarmNow s) (timerTick s) = none ∧ fetchInstr (timerTick s) = .error (.raise k) ∧
          flagExcnenable s.flags = true ∧ EntryReady s ∧ u = enterException k (timerTick s)) ∨
       (∃ i, asyncRequest (alarmNow s) (timerTick s) = none ∧ fetchInstr (timerTick s) = .ok i ∧
          exec i (timerTick s) = .next u)) := by
  simp only [step, coreCycle, thenSample] at h
  split at h
  · next u hu =>
    injection h with h
    refine ⟨u, h.symm, ?_⟩
    unfold stepTicked at hu
    split at hu
    · next k hk => exact .inl ⟨k, hk, (raiseException_next hu).2⟩
    · next hk =>
      split at hu
      · next e he =>
        obtain ⟨k, rfl, hx, hr, rfl⟩ := stopOutcome_next hu
        exact .inr (.inl ⟨k, hk, he, hx, hr, rfl⟩)
      · next i hi => exact .inr (.inr ⟨i, hk, hi, hu⟩)
  · cases h
  · cases h

end Sys2Proof.Machine
end

