-- ==== Sys2Proof/Laws/Bits.lean ====
section
/-! SUPPORT. The bit fields as numbers and masks: words of four bytes, `CTRL_CPUID`, TIMER0's views, the reserved bits, the MMU
registers. -/

namespace Sys2Proof.Machine

/-! ## Words of four bytes -/

/-- A word of four bytes as a number. -/
theorem toNat_bytes (a b c d : Byte) :
    (a ++ b ++ c ++ d : BitVec 32).toNat = a.toNat * 2 ^ 24 + b.toNat * 2 ^ 16 + c.toNat * 2 ^ 8 + d.toNat := by
  have h1 : (a ++ b ++ c ++ d : BitVec 32).toNat = (a ++ b ++ c).toNat <<< 8 ||| d.toNat := BitVec.toNat_append _ _
  have h2 : (a ++ b ++ c).toNat = (a ++ b).toNat <<< 8 ||| c.toNat := BitVec.toNat_append _ _
  have h3 : (a ++ b).toNat = a.toNat <<< 8 ||| b.toNat := BitVec.toNat_append _ _
  rw [h1, h2, h3, ← Nat.shiftLeft_add_eq_or_of_lt d.isLt, ← Nat.shiftLeft_add_eq_or_of_lt c.isLt,
    ← Nat.shiftLeft_add_eq_or_of_lt b.isLt]
  simp only [Nat.shiftLeft_eq]
  omega

/-- The bytes of a word make the word. -/
theorem append_extracts (w : BitVec 32) :
    (w.extractLsb' 24 8 ++ w.extractLsb' 16 8 ++ w.extractLsb' 8 8 ++ w.extractLsb' 0 8 : BitVec 32) = w := by
  apply BitVec.eq_of_toNat_eq
  rw [toNat_bytes]
  simp only [BitVec.extractLsb'_toNat, Nat.shiftRight_eq_div_pow]
  have := w.isLt
  omega

/-- Reversing the bytes of a word. -/
theorem byteReverse_append (a b c d : Byte) :
    byteReverse (a ++ b ++ c ++ d : BitVec 32) = (d ++ c ++ b ++ a : BitVec 32) := by
  apply BitVec.eq_of_toNat_eq
  rw [byteReverse, toNat_bytes, toNat_bytes]
  simp only [BitVec.extractLsb'_toNat, Nat.shiftRight_eq_div_pow, toNat_bytes]
  have := a.isLt; have := b.isLt; have := c.isLt; have := d.isLt
  omega

/-- Reversing the bytes twice gives the word back. -/
theorem byteReverse_byteReverse (w : BitVec 32) : byteReverse (byteReverse w) = w := by
  conv_lhs => rw [byteReverse.eq_def w]
  rw [byteReverse_append, append_extracts]

/-- A word's stored bytes, assembled in the order they were stored in, are the word. -/
theorem assembleWord_splitWord {o : ByteOrder} {w : BitVec 32} {b0 b1 b2 b3 : Byte}
    (h : splitWord o w = [b0, b1, b2, b3]) : assembleWord o b0 b1 b2 b3 = w := by
  cases o <;> simp only [splitWord, List.cons.injEq, and_true] at h <;> obtain ⟨rfl, rfl, rfl, rfl⟩ := h <;>
    exact append_extracts w

/-! ## Constants and views -/

/-- `CTRL_CPUID`'s 64-bit layout as a number (10_state.md R12). -/
theorem toNat_cpuid (g : BitVec 32) (c m r : BitVec 8) :
    (g ++ c ++ m ++ 0x01#8 ++ r : BitVec 64).toNat =
      g.toNat * 2 ^ 32 + c.toNat * 2 ^ 24 + m.toNat * 2 ^ 16 + 0x0100 + r.toNat := by
  have h1 : (g ++ c ++ m ++ 0x01#8 ++ r : BitVec 64).toNat =
      (g ++ c ++ m ++ 0x01#8).toNat <<< 8 ||| r.toNat := BitVec.toNat_append _ _
  have h2 : (g ++ c ++ m ++ 0x01#8).toNat = (g ++ c ++ m).toNat <<< 8 ||| (0x01#8).toNat := BitVec.toNat_append _ _
  have h3 : (g ++ c ++ m).toNat = (g ++ c).toNat <<< 8 ||| m.toNat := BitVec.toNat_append _ _
  have h4 : (g ++ c).toNat = g.toNat <<< 8 ||| c.toNat := BitVec.toNat_append _ _
  rw [h1, h2, h3, h4, ← Nat.shiftLeft_add_eq_or_of_lt r.isLt, ← Nat.shiftLeft_add_eq_or_of_lt (0x01#8).isLt,
    ← Nat.shiftLeft_add_eq_or_of_lt m.isLt, ← Nat.shiftLeft_add_eq_or_of_lt c.isLt]
  simp only [Nat.shiftLeft_eq, BitVec.toNat_ofNat]
  omega

/-- TIMER0's read view as a number (10_state.md R22). -/
theorem timer0ReadView_toNat (t : Timer0) :
    (timer0ReadView t).toNat = t.count.toNat / 256 * 256 + t.dingdong.toNat := by
  have h1 : (timer0ReadView t).toNat =
      (t.count.extractLsb' 8 56 ++ 0#7).toNat <<< 1 ||| (BitVec.ofBool t.dingdong).toNat := BitVec.toNat_append _ _
  have h2 : (t.count.extractLsb' 8 56 ++ 0#7).toNat = (t.count.extractLsb' 8 56).toNat <<< 7 ||| (0#7).toNat :=
    BitVec.toNat_append _ _
  rw [h1, h2, ← Nat.shiftLeft_add_eq_or_of_lt (0#7).isLt, ← Nat.shiftLeft_add_eq_or_of_lt (BitVec.isLt _)]
  simp only [Nat.shiftLeft_eq, BitVec.toNat_ofNat, BitVec.extractLsb'_toNat, Nat.shiftRight_eq_div_pow,
    BitVec.toNat_ofBool]
  have := t.count.isLt
  omega

/-! ## Reserved bits -/

/-- A field is zero exactly when its bits are. -/
theorem extractLsb'_eq_zero_iff (v : Word) (lo n : Nat) :
    v.extractLsb' lo n = 0#n ↔ ∀ i, lo ≤ i → i < lo + n → v.getLsbD i = false := by
  constructor
  · intro h i h1 h2
    have := congrArg (fun x => x.getLsbD (i - lo)) h
    simpa [show i - lo < n by omega, show lo + (i - lo) = i by omega] using this
  · intro h
    apply BitVec.eq_of_getLsbD_eq
    intro i hi
    simpa [hi] using h (lo + i) (by omega) (by omega)

/-- A value has no bit of a mask exactly when its bits are zero where the mask's are not. -/
theorem and_eq_zero_iff (v m : Word) : v &&& m = 0#64 ↔ ∀ i, i < 64 → m.getLsbD i = true → v.getLsbD i = false := by
  constructor
  · intro h i _ hm
    have := congrArg (fun x => x.getLsbD i) h
    simpa [BitVec.getLsbD_and, hm] using this
  · intro h
    apply BitVec.eq_of_getLsbD_eq
    intro i hi
    rw [BitVec.getLsbD_and, BitVec.getLsbD_zero]
    cases hm : m.getLsbD i
    · simp
    · simp [h i hi hm]

/-- The reserved bits of a flags word, as a mask (10_state.md R17). -/
theorem flagsReservedClear_iff (v : Word) : flagsReservedClear v = true ↔ v &&& 0xFFFFFFFFFFF80080#64 = 0#64 := by
  have hm : ∀ i, i < 64 → ((0xFFFFFFFFFFF80080#64).getLsbD i = true ↔ i = 7 ∨ 19 ≤ i) := by decide
  rw [and_eq_zero_iff]
  simp only [flagsReservedClear, Bool.and_eq_true, Bool.not_eq_true', beq_iff_eq]
  rw [show (0 : BitVec 45) = 0#45 from rfl, extractLsb'_eq_zero_iff]
  constructor
  · rintro ⟨h1, h2⟩ i hi h
    rcases (hm i hi).1 h with rfl | h
    · exact h1
    · exact h2 i h (by omega)
  · exact fun h => ⟨h 7 (by decide) (by decide), fun i h1 h2 => h i (by omega) ((hm i (by omega)).2 (.inr h1))⟩

/-- The reserved bits of a value written to `CTRL_TIMER0`, as a mask (10_state.md R23). -/
theorem timer0ReservedClear_iff (v : Word) : timer0ReservedClear v = true ↔ v &&& 0xFFFFFFFFFFF0F0F0#64 = 0#64 := by
  have hm : ∀ i, i < 64 →
      ((0xFFFFFFFFFFF0F0F0#64).getLsbD i = true ↔ (4 ≤ i ∧ i < 8) ∨ (12 ≤ i ∧ i < 16) ∨ 20 ≤ i) := by decide
  rw [and_eq_zero_iff]
  simp only [timer0ReservedClear, Bool.and_eq_true, beq_iff_eq]
  rw [show (0 : BitVec 4) = 0#4 from rfl, show (0 : BitVec 44) = 0#44 from rfl, extractLsb'_eq_zero_iff,
    extractLsb'_eq_zero_iff, extractLsb'_eq_zero_iff]
  constructor
  · rintro ⟨⟨h1, h2⟩, h3⟩ i hi h
    rcases (hm i hi).1 h with h | h | h
    · exact h1 i h.1 h.2
    · exact h2 i h.1 h.2
    · exact h3 i h (by omega)
  · intro h
    refine ⟨⟨fun i h1 h2 => ?_, fun i h1 h2 => ?_⟩, fun i h1 h2 => ?_⟩ <;>
      exact h i (by omega) ((hm i (by omega)).2 (by omega))

/-! ## The MMU registers -/

/-- A base address is the register rounded down to 1KB (10_state.md R28, R29). -/
theorem slotBase_toNat (v : Word) : (slotBase v).toNat = v.toNat / 1024 * 1024 := by
  have h : (slotBase v).toNat = (v.extractLsb' 10 54).toNat <<< 10 ||| (0#10).toNat := BitVec.toNat_append _ _
  rw [h, ← Nat.shiftLeft_add_eq_or_of_lt (0#10).isLt]
  simp only [Nat.shiftLeft_eq, BitVec.toNat_ofNat, BitVec.extractLsb'_toNat, Nat.shiftRight_eq_div_pow]
  have := v.isLt
  omega

/-- A slot's size is a power of two between 2^10 and 2^25 (10_state.md R28). -/
theorem slotSize_eq (x : Word) : ∃ k, k < 16 ∧ slotSize x = 2 ^ (10 + k) :=
  ⟨(x.extractLsb' 0 4).toNat, (x.extractLsb' 0 4).isLt, by
    rw [slotSize, Nat.shiftLeft_eq, Nat.pow_add]⟩

end Sys2Proof.Machine
end

