-- ==== Sys2Proof/Laws/Control.lean ====
section
/-! SUPPORT. Control registers by number, and what a write of each can do. -/

namespace Sys2Proof.Machine

/-- A control register's number (10_state.md R10). -/
def ctrlRegNumber : CtrlReg → Nat
  | .cpuid => 0x00
  | .excn => 0x01
  | .flags => 0x02
  | .mirrorflags => 0x03
  | .xaddr => 0x04
  | .mirrorxaddr => 0x05
  | .timer0 => 0x06
  | .system0 => 0x08
  | .system1 => 0x09
  | .gpioaPins => 0x0A
  | .processors => 0x0F
  | .mmuX n => 0x10 + n.val
  | .mmuY n => 0x20 + n.val
  | .overlord n => 0x30 + n.val

/-- The two ways a choice of registers gives a register. -/
theorem ite_some {c : Prop} [Decidable c] {a reg : CtrlReg} {e : Option CtrlReg}
    (h : (if c then some a else e) = some reg) : (c ∧ a = reg) ∨ e = some reg := by
  by_cases hc : c
  · rw [if_pos hc] at h; exact .inl ⟨hc, Option.some.inj h⟩
  · rw [if_neg hc] at h; exact .inr h

/-- The same, for a register that depends on the condition. -/
theorem dite_some {c : Prop} [Decidable c] {a : c → CtrlReg} {reg : CtrlReg} {e : Option CtrlReg}
    (h : (if hc : c then some (a hc) else e) = some reg) : (∃ hc : c, a hc = reg) ∨ e = some reg := by
  by_cases hc : c
  · rw [dif_pos hc] at h; exact .inl ⟨hc, Option.some.inj h⟩
  · rw [dif_neg hc] at h; exact .inr h

/-- A number's register has that number. -/
theorem ctrlRegOf_number {p : Params} {cn : Nat} {reg : CtrlReg} (h : ctrlRegOf p cn = some reg) : cn = ctrlRegNumber reg := by
  unfold ctrlRegOf at h
  iterate 11
    rcases ite_some h with ⟨hc, rfl⟩ | h
    · exact hc
  iterate 3
    rcases dite_some h with ⟨hc, rfl⟩ | h
    · simp only [ctrlRegNumber]; omega
  cases h

/-- Only `MODESWITCH` names no control register. -/
theorem accessOf_none {i : Instr} (h : accessOf i = none) : i = .modeswitch := by
  cases i <;> first | rfl | cases h

/-- What a write that is not refused does (40_ctrl_access.md R109 to R130). -/
theorem ctrlWrite_ok {reg : CtrlReg} {v : Word} {s t : State} (h : ctrlWrite reg v s = .ok t) :
    match reg with
    | .cpuid | .excn => False
    | .flags => flagsReservedClear v = true ∧ t = { s with flags := v }
    | .mirrorflags => flagsReservedClear v = true ∧ t = { s with mirrorflags := v, written := { s.written with mirrorflags := true } }
    | .xaddr => t = { s with xaddr := v, written := { s.written with xaddr := true } }
    | .mirrorxaddr => t = { s with mirrorxaddr := v, written := { s.written with mirrorxaddr := true } }
    | .timer0 => timer0ReservedClear v = true ∧ t = { s with timer0 := timer0Write v s.timer0 }
    | .system0 => t = { s with system0 := v }
    | .system1 => t = { s with system1 := v }
    | .gpioaPins => t = emit (.gpioaPins (lowBits s.params.gpioaWidth v)) { s with gpioaOut := lowBits s.params.gpioaWidth v }
    | .processors => t = emit (.procPins (lowBits s.params.procWidth v)) { s with procOut := lowBits s.params.procWidth v }
    | .mmuX n => t = { s with mmuX := s.mmuX.set n v }
    | .mmuY n => t = { s with mmuY := s.mmuY.set n v }
    | .overlord n => t = { s with overlord := s.overlord.set n (v.setWidth 32) } := by
  cases reg <;> simp only [ctrlWrite] at h ⊢
  case cpuid => cases h
  case excn => cases h
  case flags =>
    split at h
    · injection h with h; exact ⟨‹_›, h.symm⟩
    · exact absurd h (by simp)
  case mirrorflags =>
    split at h
    · injection h with h; exact ⟨‹_›, h.symm⟩
    · exact absurd h (by simp)
  case timer0 =>
    split at h
    · injection h with h; exact ⟨‹_›, h.symm⟩
    · exact absurd h (by simp)
  all_goals (injection h with h; exact h.symm)

/-- No write changes a general register, the program counter, memory, a parameter or the environment. -/
theorem ctrlWrite_frame {reg : CtrlReg} {v : Word} {s t : State} (h : ctrlWrite reg v s = .ok t) :
    t.params = s.params ∧ t.regs = s.regs ∧ t.pc = s.pc ∧ t.excn = s.excn ∧ t.mem = s.mem ∧ t.inputs = s.inputs ∧
      t.draws = s.draws := by
  have h := ctrlWrite_ok h
  cases reg <;> simp only at h
  all_goals first | exact h.elim | (obtain ⟨-, rfl⟩ := h)
  all_goals exact ⟨rfl, rfl, rfl, rfl, rfl, rfl, rfl⟩

end Sys2Proof.Machine
end

