-- ==== Sys2Proof/Laws/Mmu.lean ====
section
/-! SUPPORT. The slots searched, what a search, a translation and an access have gone through, the outcome of an access, and that a tick
moves no fetch. -/

namespace Sys2Proof.Machine

/-! ## The slots there are -/

/-- The slots searched are the first `MMU_SLOTS` of sixteen (20_memory.md R69). -/
theorem mem_slotList {p : Params} {n : Fin 16} : n ∈ slotList p ↔ n.val < p.mmuSlots := by
  by_cases h : p.mmuSlots < 17
  · have all : ∀ k : Fin 17, ∀ m : Fin 16,
        m ∈ ([0, 1, 2, 3, 4, 5, 6, 7, 8, 9, 10, 11, 12, 13, 14, 15] : List (Fin 16)).take k.val ↔ m.val < k.val := by decide
    exact all ⟨p.mmuSlots, h⟩ n
  · have all : ∀ m : Fin 16, m ∈ ([0, 1, 2, 3, 4, 5, 6, 7, 8, 9, 10, 11, 12, 13, 14, 15] : List (Fin 16)) := by decide
    rw [slotList, List.take_of_length_le (by simp only [List.length_cons, List.length_nil]; omega)]
    exact ⟨fun _ => by have := n.isLt; omega, fun _ => all n⟩

/-- The slots searched before slot `n` are the lower ones. -/
theorem slotList_split {p : Params} {n : Fin 16} (h : n.val < p.mmuSlots) :
    ∃ before after, slotList p = before ++ n :: after ∧ ∀ m ∈ before, m < n := by
  obtain ⟨before, after, e⟩ := List.append_of_mem (mem_slotList.2 h)
  have sorted : ([0, 1, 2, 3, 4, 5, 6, 7, 8, 9, 10, 11, 12, 13, 14, 15] : List (Fin 16)).Pairwise (· < ·) := by decide
  have hp : (slotList p).Pairwise (· < ·) := sorted.sublist (List.take_sublist _ _)
  refine ⟨before, after, e, fun m hm => ?_⟩
  rw [e] at hp
  exact (List.pairwise_append.1 hp).2.2 m hm n List.mem_cons_self

/-- A search passes over slots that do not match, as long as the ones it meets are aligned (20_memory.md R62; log 13). -/
theorem lowestMatchIn_skip {s : State} {k : AccessKind} {va : Word} {after : List (Fin 16)} :
    ∀ {before : List (Fin 16)}, (∀ m ∈ before, slotMatches s.mmuX[m] k va = false) →
      (∀ m ∈ before, slotApplies s.mmuX[m] k = true → slotAligned s.mmuX[m] s.mmuY[m] = true) →
      lowestMatchIn s k va (before ++ after) = lowestMatchIn s k va after := by
  intro before
  induction before with
  | nil => exact fun _ _ => rfl
  | cons m rest ih =>
    intro hm ha
    have ih := ih (fun j hj => hm j (List.mem_cons_of_mem _ hj)) (fun j hj => ha j (List.mem_cons_of_mem _ hj))
    have unmatched := hm m List.mem_cons_self
    have aligned := ha m List.mem_cons_self
    rw [List.cons_append, lowestMatchIn]
    split
    · next h =>
      rw [if_pos (aligned h), if_neg (by unfold slotMatches at unmatched; rw [h] at unmatched; simpa using unmatched)]
      exact ih
    · exact ih

/-! ## Translations and accesses -/

/-- With the MMU off every address is its own translation (20_memory.md R60). -/
theorem translate_off {s : State} (h : flagMmuenable s.flags = false) (k : AccessKind) (va : Word) (size : Nat) :
    translate s k va size = .ok va := by
  simp [translate, h]

/-- What a translation with the MMU on has gone through (20_memory.md R60 to R65). -/
theorem translate_on {s : State} {k : AccessKind} {va pa : Word} {size : Nat} (h : flagMmuenable s.flags = true)
    (ht : translate s k va size = .ok pa) :
    ∃ n, lowestMatch s k va = .ok (some n) ∧ permitted s s.mmuX[n] k = true ∧
      va.toNat + size ≤ (slotBase s.mmuX[n]).toNat + slotSize s.mmuX[n] ∧ pa = physAddr s n va := by
  simp only [translate, h, if_true] at ht
  split at ht
  · cases ht
  · next n hn =>
    injection ht with ht
    unfold accessSlot at hn
    split at hn
    · cases hn
    · cases hn
    · next m hm =>
      split at hn
      · next hp =>
        split at hn
        · next hs => injection hn with hn; subst hn; exact ⟨m, hm, hp, hs, ht.symm⟩
        · cases hn
      · cases hn

/-- The translation of an access that its slot permits and holds (20_memory.md R60 to R65). -/
theorem translate_slot {s : State} {k : AccessKind} {va : Word} {size : Nat} {n : Fin 16}
    (h : flagMmuenable s.flags = true) (hn : lowestMatch s k va = .ok (some n)) (hp : permitted s s.mmuX[n] k = true)
    (hs : va.toNat + size ≤ (slotBase s.mmuX[n]).toNat + slotSize s.mmuX[n]) :
    translate s k va size = .ok (physAddr s n va) := by
  simp only [translate, accessSlot, h, hn, hp, if_pos hs, if_true]

/-- What an access that gives a physical address has gone through (20_memory.md R60, R72; 60_exceptions.md R154). -/
theorem dataAccess_ok {s : State} {k : AccessKind} {va pa : Word} {size : Nat} (h : dataAccess s k va size = .ok pa) :
    dataAligned s va size = true ∧ translate s k va size = .ok pa ∧ busAnswers s k pa size = true := by
  have hb : ∀ {q : Word}, busAccess s k va size = .ok q → translate s k va size = .ok q ∧ busAnswers s k q size = true := by
    intro q hq
    unfold busAccess at hq
    split at hq
    · cases hq
    · split at hq
      · next p hp ha => injection hq with hq; subst hq; exact ⟨hp, ha⟩
      · cases hq
  unfold dataAccess at h
  split at h
  · cases h
  · next hn =>
    refine ⟨?_, hb h⟩
    cases hm : s.params.misalignedData with
    | none => simp [dataAligned, hm]
    | some c =>
      cases hd : dataAligned s va size with
      | true => rfl
      | false => exact absurd hd (hn c hm)

/-- The slot a search finds is one of those searched, applies to the access, is aligned and covers the address (20_memory.md R61,
R62). -/
theorem lowestMatchIn_some {s : State} {k : AccessKind} {va : Word} {n : Fin 16} :
    ∀ {slots : List (Fin 16)}, lowestMatchIn s k va slots = .ok (some n) →
      n ∈ slots ∧ slotApplies s.mmuX[n] k = true ∧ slotAligned s.mmuX[n] s.mmuY[n] = true ∧
        slotCovers s.mmuX[n] va = true := by
  intro slots
  induction slots with
  | nil => intro h; cases h
  | cons m rest ih =>
    intro h
    unfold lowestMatchIn at h
    split at h
    · split at h
      · split at h
        · injection h with h; injection h with h; subst h
          exact ⟨List.mem_cons_self, ‹_›, ‹_›, ‹_›⟩
        · exact (ih h).imp (List.mem_cons_of_mem _) id
      · cases h
    · exact (ih h).imp (List.mem_cons_of_mem _) id

/-- An access that stops its instruction raises, faults or refuses; otherwise the rest of the instruction goes on. -/
theorem accessThen_next {α : Type} {a : Except Stop α} {s t : State} {rest : α → Host.Outcome State Fault Refusal}
    (h : accessThen a s rest = .next t) :
    (∃ v, a = .ok v ∧ rest v = .next t) ∨
    (∃ k, a = .error (.raise k) ∧ flagExcnenable s.flags = true ∧ EntryReady s ∧ t = enterException k s) := by
  cases a with
  | ok v => exact .inl ⟨v, rfl, h⟩
  | error e =>
    obtain ⟨k, rfl, hx, hr, ht⟩ := stopOutcome_next h
    exact .inr ⟨k, rfl, hx, hr, ht⟩

/-! ## The tick and the fetch -/

theorem lowestMatchIn_timerTick (s : State) (k : AccessKind) (va : Word) :
    ∀ slots, lowestMatchIn (timerTick s) k va slots = lowestMatchIn s k va slots
  | [] => rfl
  | n :: rest => by
    simp only [lowestMatchIn, lowestMatchIn_timerTick s k va rest]
    rfl

/-- A tick changes no bus access. -/
theorem busAccess_timerTick (s : State) (k : AccessKind) (va : Word) (size : Nat) :
    busAccess (timerTick s) k va size = busAccess s k va size := by
  have h : lowestMatch (timerTick s) k va = lowestMatch s k va := lowestMatchIn_timerTick s k va _
  simp only [busAccess, Machine.translate, accessSlot, h]
  rfl

/-- A tick does not move the fetch. -/
theorem fetchAddr_timerTick (s : State) : fetchAddr (timerTick s) = fetchAddr s := by
  have h := busAccess_timerTick s .fetch s.pc 4
  unfold fetchAddr
  simp only [timerTick_params, timerTick_pc, h]

end Sys2Proof.Machine
end

