-- ==== Sys2Proof/Laws/PerInstr.lean ====
section
/-! SUPPORT. The family `OperandsFit`: a well-formed instruction's opcode and operands fit the fields of its word, so that its
encoding drops no bit of them (log 1). -/

namespace Sys2Proof.Laws

/-- A well-formed instruction's word carries exactly its fields. -/
def OperandsFit.Statement (i : Instr) : Prop :=
  i.WellFormed → wordFields (encode i) = instrFields i

/-- A word's number, from its three fields. -/
theorem toNat_fields (a b : BitVec 8) (c : BitVec 16) :
    (a ++ b ++ c : BitVec 32).toNat = a.toNat * 2 ^ 24 + b.toNat * 2 ^ 16 + c.toNat := by
  have h1 : (a ++ b ++ c : BitVec 32).toNat = (a ++ b).toNat <<< 16 ||| c.toNat := BitVec.toNat_append _ _
  have h2 : (a ++ b).toNat = a.toNat <<< 8 ||| b.toNat := BitVec.toNat_append _ _
  rw [h1, h2, ← Nat.shiftLeft_add_eq_or_of_lt c.isLt, ← Nat.shiftLeft_add_eq_or_of_lt b.isLt]
  simp only [Nat.shiftLeft_eq]
  omega

/-- A word carries fields that fit. -/
theorem wordFields_fieldsWord {f : Fields} (ho : f.opcode < 256) (hr : f.reg < 256) (hc : f.cn < 65536) :
    wordFields (fieldsWord f) = f := by
  obtain ⟨o, r, c⟩ := f
  simp only at ho hr hc
  simp only [wordFields, fieldsWord, Fields.mk.injEq, BitVec.extractLsb'_toNat, toNat_fields, BitVec.toNat_ofNat,
    Nat.shiftRight_eq_div_pow]
  refine ⟨?_, ?_, ?_⟩ <;> omega

theorem lt_of_blt {a b : Nat} (h : Nat.blt a b = true) : a < b :=
  Nat.le_of_ble_eq_true h

theorem OperandsFit.of_fields {i : Instr} (ho : (instrFields i).opcode < 256) (hr : (instrFields i).reg < 256)
    (hc : (instrFields i).cn < 65536) : wordFields (encode i) = instrFields i :=
  wordFields_fieldsWord ho hr hc

theorem OperandsFit.ctrlrd (rd cn : Nat) : OperandsFit.Statement (.ctrlrd rd cn) := 
  fun h => OperandsFit.of_fields (lt_of_blt rfl) h.1 h.2
theorem OperandsFit.ctrlwr (cn rs : Nat) : OperandsFit.Statement (.ctrlwr cn rs) := 
  fun h => OperandsFit.of_fields (lt_of_blt rfl) h.1 h.2
theorem OperandsFit.modeswitch : OperandsFit.Statement .modeswitch := 
  fun _ => OperandsFit.of_fields (lt_of_blt rfl) (lt_of_blt rfl) (lt_of_blt rfl)
theorem OperandsFit.ctrlrdCpuid (rd : Nat) : OperandsFit.Statement (.ctrlrdCpuid rd) := 
  fun h => OperandsFit.of_fields (lt_of_blt rfl) h (lt_of_blt rfl)
theorem OperandsFit.ctrlwrCpuid (rs : Nat) : OperandsFit.Statement (.ctrlwrCpuid rs) := 
  fun h => OperandsFit.of_fields (lt_of_blt rfl) h (lt_of_blt rfl)
theorem OperandsFit.ctrlrdExcn (rd : Nat) : OperandsFit.Statement (.ctrlrdExcn rd) := 
  fun h => OperandsFit.of_fields (lt_of_blt rfl) h (lt_of_blt rfl)
theorem OperandsFit.ctrlwrExcn (rs : Nat) : OperandsFit.Statement (.ctrlwrExcn rs) := 
  fun h => OperandsFit.of_fields (lt_of_blt rfl) h (lt_of_blt rfl)
theorem OperandsFit.ctrlrdFlags (rd : Nat) : OperandsFit.Statement (.ctrlrdFlags rd) := 
  fun h => OperandsFit.of_fields (lt_of_blt rfl) h (lt_of_blt rfl)
theorem OperandsFit.ctrlwrFlags (rs : Nat) : OperandsFit.Statement (.ctrlwrFlags rs) := 
  fun h => OperandsFit.of_fields (lt_of_blt rfl) h (lt_of_blt rfl)
theorem OperandsFit.ctrlrdMirrorflags (rd : Nat) : OperandsFit.Statement (.ctrlrdMirrorflags rd) := 
  fun h => OperandsFit.of_fields (lt_of_blt rfl) h (lt_of_blt rfl)
theorem OperandsFit.ctrlwrMirrorflags (rs : Nat) : OperandsFit.Statement (.ctrlwrMirrorflags rs) := 
  fun h => OperandsFit.of_fields (lt_of_blt rfl) h (lt_of_blt rfl)
theorem OperandsFit.ctrlrdXaddr (rd : Nat) : OperandsFit.Statement (.ctrlrdXaddr rd) := 
  fun h => OperandsFit.of_fields (lt_of_blt rfl) h (lt_of_blt rfl)
theorem OperandsFit.ctrlwrXaddr (rs : Nat) : OperandsFit.Statement (.ctrlwrXaddr rs) := 
  fun h => OperandsFit.of_fields (lt_of_blt rfl) h (lt_of_blt rfl)
theorem OperandsFit.ctrlrdMirrorxaddr (rd : Nat) : OperandsFit.Statement (.ctrlrdMirrorxaddr rd) := 
  fun h => OperandsFit.of_fields (lt_of_blt rfl) h (lt_of_blt rfl)
theorem OperandsFit.ctrlwrMirrorxaddr (rs : Nat) : OperandsFit.Statement (.ctrlwrMirrorxaddr rs) := 
  fun h => OperandsFit.of_fields (lt_of_blt rfl) h (lt_of_blt rfl)
theorem OperandsFit.ctrlrdTimer0 (rd : Nat) : OperandsFit.Statement (.ctrlrdTimer0 rd) := 
  fun h => OperandsFit.of_fields (lt_of_blt rfl) h (lt_of_blt rfl)
theorem OperandsFit.ctrlwrTimer0 (rs : Nat) : OperandsFit.Statement (.ctrlwrTimer0 rs) := 
  fun h => OperandsFit.of_fields (lt_of_blt rfl) h (lt_of_blt rfl)
theorem OperandsFit.ctrlrdTimer1 (rd : Nat) : OperandsFit.Statement (.ctrlrdTimer1 rd) := 
  fun h => OperandsFit.of_fields (lt_of_blt rfl) h (lt_of_blt rfl)
theorem OperandsFit.ctrlwrTimer1 (rs : Nat) : OperandsFit.Statement (.ctrlwrTimer1 rs) := 
  fun h => OperandsFit.of_fields (lt_of_blt rfl) h (lt_of_blt rfl)
theorem OperandsFit.ctrlrdSystem0 (rd : Nat) : OperandsFit.Statement (.ctrlrdSystem0 rd) := 
  fun h => OperandsFit.of_fields (lt_of_blt rfl) h (lt_of_blt rfl)
theorem OperandsFit.ctrlwrSystem0 (rs : Nat) : OperandsFit.Statement (.ctrlwrSystem0 rs) := 
  fun h => OperandsFit.of_fields (lt_of_blt rfl) h (lt_of_blt rfl)
theorem OperandsFit.ctrlrdSystem1 (rd : Nat) : OperandsFit.Statement (.ctrlrdSystem1 rd) := 
  fun h => OperandsFit.of_fields (lt_of_blt rfl) h (lt_of_blt rfl)
theorem OperandsFit.ctrlwrSystem1 (rs : Nat) : OperandsFit.Statement (.ctrlwrSystem1 rs) := 
  fun h => OperandsFit.of_fields (lt_of_blt rfl) h (lt_of_blt rfl)
theorem OperandsFit.ctrlrdGpioaPins (rd : Nat) : OperandsFit.Statement (.ctrlrdGpioaPins rd) := 
  fun h => OperandsFit.of_fields (lt_of_blt rfl) h (lt_of_blt rfl)
theorem OperandsFit.ctrlwrGpioaPins (rs : Nat) : OperandsFit.Statement (.ctrlwrGpioaPins rs) := 
  fun h => OperandsFit.of_fields (lt_of_blt rfl) h (lt_of_blt rfl)
theorem OperandsFit.ctrlrdProcessors (rd : Nat) : OperandsFit.Statement (.ctrlrdProcessors rd) := 
  fun h => OperandsFit.of_fields (lt_of_blt rfl) h (lt_of_blt rfl)
theorem OperandsFit.ctrlwrProcessors (rs : Nat) : OperandsFit.Statement (.ctrlwrProcessors rs) := 
  fun h => OperandsFit.of_fields (lt_of_blt rfl) h (lt_of_blt rfl)
theorem OperandsFit.ctrlrdMmuX0 (rd : Nat) : OperandsFit.Statement (.ctrlrdMmuX0 rd) := 
  fun h => OperandsFit.of_fields (lt_of_blt rfl) h (lt_of_blt rfl)
theorem OperandsFit.ctrlwrMmuX0 (rs : Nat) : OperandsFit.Statement (.ctrlwrMmuX0 rs) := 
  fun h => OperandsFit.of_fields (lt_of_blt rfl) h (lt_of_blt rfl)
theorem OperandsFit.ctrlrdMmuX1 (rd : Nat) : OperandsFit.Statement (.ctrlrdMmuX1 rd) := 
  fun h => OperandsFit.of_fields (lt_of_blt rfl) h (lt_of_blt rfl)
theorem OperandsFit.ctrlwrMmuX1 (rs : Nat) : OperandsFit.Statement (.ctrlwrMmuX1 rs) := 
  fun h => OperandsFit.of_fields (lt_of_blt rfl) h (lt_of_blt rfl)
theorem OperandsFit.ctrlrdMmuX2 (rd : Nat) : OperandsFit.Statement (.ctrlrdMmuX2 rd) := 
  fun h => OperandsFit.of_fields (lt_of_blt rfl) h (lt_of_blt rfl)
theorem OperandsFit.ctrlwrMmuX2 (rs : Nat) : OperandsFit.Statement (.ctrlwrMmuX2 rs) := 
  fun h => OperandsFit.of_fields (lt_of_blt rfl) h (lt_of_blt rfl)
theorem OperandsFit.ctrlrdMmuX3 (rd : Nat) : OperandsFit.Statement (.ctrlrdMmuX3 rd) := 
  fun h => OperandsFit.of_fields (lt_of_blt rfl) h (lt_of_blt rfl)
theorem OperandsFit.ctrlwrMmuX3 (rs : Nat) : OperandsFit.Statement (.ctrlwrMmuX3 rs) := 
  fun h => OperandsFit.of_fields (lt_of_blt rfl) h (lt_of_blt rfl)
theorem OperandsFit.ctrlrdMmuX4 (rd : Nat) : OperandsFit.Statement (.ctrlrdMmuX4 rd) := 
  fun h => OperandsFit.of_fields (lt_of_blt rfl) h (lt_of_blt rfl)
theorem OperandsFit.ctrlwrMmuX4 (rs : Nat) : OperandsFit.Statement (.ctrlwrMmuX4 rs) := 
  fun h => OperandsFit.of_fields (lt_of_blt rfl) h (lt_of_blt rfl)
theorem OperandsFit.ctrlrdMmuX5 (rd : Nat) : OperandsFit.Statement (.ctrlrdMmuX5 rd) := 
  fun h => OperandsFit.of_fields (lt_of_blt rfl) h (lt_of_blt rfl)
theorem OperandsFit.ctrlwrMmuX5 (rs : Nat) : OperandsFit.Statement (.ctrlwrMmuX5 rs) := 
  fun h => OperandsFit.of_fields (lt_of_blt rfl) h (lt_of_blt rfl)
theorem OperandsFit.ctrlrdMmuX6 (rd : Nat) : OperandsFit.Statement (.ctrlrdMmuX6 rd) := 
  fun h => OperandsFit.of_fields (lt_of_blt rfl) h (lt_of_blt rfl)
theorem OperandsFit.ctrlwrMmuX6 (rs : Nat) : OperandsFit.Statement (.ctrlwrMmuX6 rs) := 
  fun h => OperandsFit.of_fields (lt_of_blt rfl) h (lt_of_blt rfl)
theorem OperandsFit.ctrlrdMmuX7 (rd : Nat) : OperandsFit.Statement (.ctrlrdMmuX7 rd) := 
  fun h => OperandsFit.of_fields (lt_of_blt rfl) h (lt_of_blt rfl)
theorem OperandsFit.ctrlwrMmuX7 (rs : Nat) : OperandsFit.Statement (.ctrlwrMmuX7 rs) := 
  fun h => OperandsFit.of_fields (lt_of_blt rfl) h (lt_of_blt rfl)
theorem OperandsFit.ctrlrdMmuY0 (rd : Nat) : OperandsFit.Statement (.ctrlrdMmuY0 rd) := 
  fun h => OperandsFit.of_fields (lt_of_blt rfl) h (lt_of_blt rfl)
theorem OperandsFit.ctrlwrMmuY0 (rs : Nat) : OperandsFit.Statement (.ctrlwrMmuY0 rs) := 
  fun h => OperandsFit.of_fields (lt_of_blt rfl) h (lt_of_blt rfl)
theorem OperandsFit.ctrlrdMmuY1 (rd : Nat) : OperandsFit.Statement (.ctrlrdMmuY1 rd) := 
  fun h => OperandsFit.of_fields (lt_of_blt rfl) h (lt_of_blt rfl)
theorem OperandsFit.ctrlwrMmuY1 (rs : Nat) : OperandsFit.Statement (.ctrlwrMmuY1 rs) := 
  fun h => OperandsFit.of_fields (lt_of_blt rfl) h (lt_of_blt rfl)
theorem OperandsFit.ctrlrdMmuY2 (rd : Nat) : OperandsFit.Statement (.ctrlrdMmuY2 rd) := 
  fun h => OperandsFit.of_fields (lt_of_blt rfl) h (lt_of_blt rfl)
theorem OperandsFit.ctrlwrMmuY2 (rs : Nat) : OperandsFit.Statement (.ctrlwrMmuY2 rs) := 
  fun h => OperandsFit.of_fields (lt_of_blt rfl) h (lt_of_blt rfl)
theorem OperandsFit.ctrlrdMmuY3 (rd : Nat) : OperandsFit.Statement (.ctrlrdMmuY3 rd) := 
  fun h => OperandsFit.of_fields (lt_of_blt rfl) h (lt_of_blt rfl)
theorem OperandsFit.ctrlwrMmuY3 (rs : Nat) : OperandsFit.Statement (.ctrlwrMmuY3 rs) := 
  fun h => OperandsFit.of_fields (lt_of_blt rfl) h (lt_of_blt rfl)
theorem OperandsFit.ctrlrdMmuY4 (rd : Nat) : OperandsFit.Statement (.ctrlrdMmuY4 rd) := 
  fun h => OperandsFit.of_fields (lt_of_blt rfl) h (lt_of_blt rfl)
theorem OperandsFit.ctrlwrMmuY4 (rs : Nat) : OperandsFit.Statement (.ctrlwrMmuY4 rs) := 
  fun h => OperandsFit.of_fields (lt_of_blt rfl) h (lt_of_blt rfl)
theorem OperandsFit.ctrlrdMmuY5 (rd : Nat) : OperandsFit.Statement (.ctrlrdMmuY5 rd) := 
  fun h => OperandsFit.of_fields (lt_of_blt rfl) h (lt_of_blt rfl)
theorem OperandsFit.ctrlwrMmuY5 (rs : Nat) : OperandsFit.Statement (.ctrlwrMmuY5 rs) := 
  fun h => OperandsFit.of_fields (lt_of_blt rfl) h (lt_of_blt rfl)
theorem OperandsFit.ctrlrdMmuY6 (rd : Nat) : OperandsFit.Statement (.ctrlrdMmuY6 rd) := 
  fun h => OperandsFit.of_fields (lt_of_blt rfl) h (lt_of_blt rfl)
theorem OperandsFit.ctrlwrMmuY6 (rs : Nat) : OperandsFit.Statement (.ctrlwrMmuY6 rs) := 
  fun h => OperandsFit.of_fields (lt_of_blt rfl) h (lt_of_blt rfl)
theorem OperandsFit.ctrlrdMmuY7 (rd : Nat) : OperandsFit.Statement (.ctrlrdMmuY7 rd) := 
  fun h => OperandsFit.of_fields (lt_of_blt rfl) h (lt_of_blt rfl)
theorem OperandsFit.ctrlwrMmuY7 (rs : Nat) : OperandsFit.Statement (.ctrlwrMmuY7 rs) := 
  fun h => OperandsFit.of_fields (lt_of_blt rfl) h (lt_of_blt rfl)
theorem OperandsFit.ctrlrdOverlord0 (rd : Nat) : OperandsFit.Statement (.ctrlrdOverlord0 rd) := 
  fun h => OperandsFit.of_fields (lt_of_blt rfl) h (lt_of_blt rfl)
theorem OperandsFit.ctrlwrOverlord0 (rs : Nat) : OperandsFit.Statement (.ctrlwrOverlord0 rs) := 
  fun h => OperandsFit.of_fields (lt_of_blt rfl) h (lt_of_blt rfl)
theorem OperandsFit.ctrlrdOverlord1 (rd : Nat) : OperandsFit.Statement (.ctrlrdOverlord1 rd) := 
  fun h => OperandsFit.of_fields (lt_of_blt rfl) h (lt_of_blt rfl)
theorem OperandsFit.ctrlwrOverlord1 (rs : Nat) : OperandsFit.Statement (.ctrlwrOverlord1 rs) := 
  fun h => OperandsFit.of_fields (lt_of_blt rfl) h (lt_of_blt rfl)
theorem OperandsFit.ctrlrdOverlord2 (rd : Nat) : OperandsFit.Statement (.ctrlrdOverlord2 rd) := 
  fun h => OperandsFit.of_fields (lt_of_blt rfl) h (lt_of_blt rfl)
theorem OperandsFit.ctrlwrOverlord2 (rs : Nat) : OperandsFit.Statement (.ctrlwrOverlord2 rs) := 
  fun h => OperandsFit.of_fields (lt_of_blt rfl) h (lt_of_blt rfl)
theorem OperandsFit.ctrlrdOverlord3 (rd : Nat) : OperandsFit.Statement (.ctrlrdOverlord3 rd) := 
  fun h => OperandsFit.of_fields (lt_of_blt rfl) h (lt_of_blt rfl)
theorem OperandsFit.ctrlwrOverlord3 (rs : Nat) : OperandsFit.Statement (.ctrlwrOverlord3 rs) := 
  fun h => OperandsFit.of_fields (lt_of_blt rfl) h (lt_of_blt rfl)
theorem OperandsFit.ctrlrdOverlord4 (rd : Nat) : OperandsFit.Statement (.ctrlrdOverlord4 rd) := 
  fun h => OperandsFit.of_fields (lt_of_blt rfl) h (lt_of_blt rfl)
theorem OperandsFit.ctrlwrOverlord4 (rs : Nat) : OperandsFit.Statement (.ctrlwrOverlord4 rs) := 
  fun h => OperandsFit.of_fields (lt_of_blt rfl) h (lt_of_blt rfl)
theorem OperandsFit.ctrlrdOverlord5 (rd : Nat) : OperandsFit.Statement (.ctrlrdOverlord5 rd) := 
  fun h => OperandsFit.of_fields (lt_of_blt rfl) h (lt_of_blt rfl)
theorem OperandsFit.ctrlwrOverlord5 (rs : Nat) : OperandsFit.Statement (.ctrlwrOverlord5 rs) := 
  fun h => OperandsFit.of_fields (lt_of_blt rfl) h (lt_of_blt rfl)
theorem OperandsFit.ctrlrdOverlord6 (rd : Nat) : OperandsFit.Statement (.ctrlrdOverlord6 rd) := 
  fun h => OperandsFit.of_fields (lt_of_blt rfl) h (lt_of_blt rfl)
theorem OperandsFit.ctrlwrOverlord6 (rs : Nat) : OperandsFit.Statement (.ctrlwrOverlord6 rs) := 
  fun h => OperandsFit.of_fields (lt_of_blt rfl) h (lt_of_blt rfl)
theorem OperandsFit.ctrlrdOverlord7 (rd : Nat) : OperandsFit.Statement (.ctrlrdOverlord7 rd) := 
  fun h => OperandsFit.of_fields (lt_of_blt rfl) h (lt_of_blt rfl)
theorem OperandsFit.ctrlwrOverlord7 (rs : Nat) : OperandsFit.Statement (.ctrlwrOverlord7 rs) := 
  fun h => OperandsFit.of_fields (lt_of_blt rfl) h (lt_of_blt rfl)
theorem OperandsFit.ctrlrdUnassigned (rd cn : Nat) : OperandsFit.Statement (.ctrlrdUnassigned rd cn) := 
  fun h => OperandsFit.of_fields (lt_of_blt rfl) h.1 h.2.1
theorem OperandsFit.ctrlwrUnassigned (cn rs : Nat) : OperandsFit.Statement (.ctrlwrUnassigned cn rs) := 
  fun h => OperandsFit.of_fields (lt_of_blt rfl) h.1 h.2.1

end Sys2Proof.Laws
end

