-- ==== Sys2Proof/Tests/Slice0.lean ====
section
/-! SUPPORT. Tests. Words are written out from the layout of log 1; every other expected value is a vector of
95_test_vectors.md (E, V and P numbers) or follows by hand from the rule named. The witnesses show, for each obligation with
hypotheses, that something meets all of them. -/

namespace Sys2Proof.Tests

open Sys2Proof.Machine

/-! ## Well-formed instructions -/

theorem test_wellFormed_refuses_wide_register : ¬ (Instr.ctrlrd 256 0).WellFormed := by decide
theorem test_wellFormed_refuses_wide_number : ¬ (Instr.ctrlwr 65536 0).WellFormed := by decide
theorem test_wellFormed_refuses_assigned_number : ¬ (Instr.ctrlrdUnassigned 0 0x10).WellFormed := by decide
theorem test_wellFormed_refuses_timer1_number : ¬ (Instr.ctrlwrUnassigned 0x07 0).WellFormed := by decide
theorem test_wellFormed_admits_largest : (Instr.ctrlrdUnassigned 255 65535).WellFormed := by decide

/-! ## Decoding -/

/-- Each word decodes to the instruction beside it, which encodes to that word. -/
def decodesTo (rows : List (BitVec 32 × Instr)) : Bool :=
  rows.all fun r => decide (decodeWord r.1 = .ok r.2) && decide (encode r.2 = r.1)

theorem test_decode_operations : decodesTo
  [ (0b00000001_00000101_0000000000000010, .ctrlrd 5 2), (0b00000010_00000011_0000000000001000, .ctrlwr 8 3),
    (0b00000011_00000000_0000000000000000, .modeswitch), (0b00010001_11111111_0000000000001011, .ctrlrdUnassigned 255 0x0B),
    (0b00010010_00000001_1111111111111111, .ctrlwrUnassigned 0xFFFF 1) ] = true := by decide

theorem test_decode_read_forms : decodesTo
  [ (0x11000000, .ctrlrdCpuid 0), (0x11010001, .ctrlrdExcn 1), (0x11020002, .ctrlrdFlags 2),
    (0x11030003, .ctrlrdMirrorflags 3), (0x11040004, .ctrlrdXaddr 4), (0x11050005, .ctrlrdMirrorxaddr 5),
    (0x11060006, .ctrlrdTimer0 6), (0x11070007, .ctrlrdTimer1 7), (0x11080008, .ctrlrdSystem0 8),
    (0x11090009, .ctrlrdSystem1 9), (0x110A000A, .ctrlrdGpioaPins 10), (0x110B000F, .ctrlrdProcessors 11),
    (0x110C0010, .ctrlrdMmuX0 12), (0x110D0011, .ctrlrdMmuX1 13), (0x110E0012, .ctrlrdMmuX2 14),
    (0x110F0013, .ctrlrdMmuX3 15), (0x11000014, .ctrlrdMmuX4 0), (0x11010015, .ctrlrdMmuX5 1),
    (0x11020016, .ctrlrdMmuX6 2), (0x11030017, .ctrlrdMmuX7 3), (0x11040020, .ctrlrdMmuY0 4),
    (0x11050021, .ctrlrdMmuY1 5), (0x11060022, .ctrlrdMmuY2 6), (0x11070023, .ctrlrdMmuY3 7),
    (0x11080024, .ctrlrdMmuY4 8), (0x11090025, .ctrlrdMmuY5 9), (0x110A0026, .ctrlrdMmuY6 10),
    (0x110B0027, .ctrlrdMmuY7 11), (0x110C0030, .ctrlrdOverlord0 12), (0x110D0031, .ctrlrdOverlord1 13),
    (0x110E0032, .ctrlrdOverlord2 14), (0x110F0033, .ctrlrdOverlord3 15), (0x11000034, .ctrlrdOverlord4 0),
    (0x11010035, .ctrlrdOverlord5 1), (0x11020036, .ctrlrdOverlord6 2), (0x11030037, .ctrlrdOverlord7 3) ] = true := by decide

theorem test_decode_write_forms : decodesTo
  [ (0x12000000, .ctrlwrCpuid 0), (0x12010001, .ctrlwrExcn 1), (0x12020002, .ctrlwrFlags 2),
    (0x12030003, .ctrlwrMirrorflags 3), (0x12040004, .ctrlwrXaddr 4), (0x12050005, .ctrlwrMirrorxaddr 5),
    (0x12060006, .ctrlwrTimer0 6), (0x12070007, .ctrlwrTimer1 7), (0x12080008, .ctrlwrSystem0 8),
    (0x12090009, .ctrlwrSystem1 9), (0x120A000A, .ctrlwrGpioaPins 10), (0x120B000F, .ctrlwrProcessors 11),
    (0x120C0010, .ctrlwrMmuX0 12), (0x120D0011, .ctrlwrMmuX1 13), (0x120E0012, .ctrlwrMmuX2 14),
    (0x120F0013, .ctrlwrMmuX3 15), (0x12000014, .ctrlwrMmuX4 0), (0x12010015, .ctrlwrMmuX5 1),
    (0x12020016, .ctrlwrMmuX6 2), (0x12030017, .ctrlwrMmuX7 3), (0x12040020, .ctrlwrMmuY0 4),
    (0x12050021, .ctrlwrMmuY1 5), (0x12060022, .ctrlwrMmuY2 6), (0x12070023, .ctrlwrMmuY3 7),
    (0x12080024, .ctrlwrMmuY4 8), (0x12090025, .ctrlwrMmuY5 9), (0x120A0026, .ctrlwrMmuY6 10),
    (0x120B0027, .ctrlwrMmuY7 11), (0x120C0030, .ctrlwrOverlord0 12), (0x120D0031, .ctrlwrOverlord1 13),
    (0x120E0032, .ctrlwrOverlord2 14), (0x120F0033, .ctrlwrOverlord3 15), (0x12000034, .ctrlwrOverlord4 0),
    (0x12010035, .ctrlwrOverlord5 1), (0x12020036, .ctrlwrOverlord6 2), (0x12030037, .ctrlwrOverlord7 3) ] = true := by decide

theorem test_decode_rejects_unknown_opcode : decodeWord 0 = .error (.unknownOpcode 0) := by decide
theorem test_decode_rejects_operand_bits : decodeWord 0x03000001 = .error .operandBitsSet := by decide
theorem test_decode_rejects_short_bytes : decodeBytes .little [0, 0, 3] = .error .wrongLength := by decide
theorem test_decode_big_endian_bytes : decodeBytes .big [0x11, 0x04, 0x00, 0x06] = .ok (.ctrlrdTimer0 4) := by decide
theorem test_decodeTableWord : decodeTableWord 32 0x12030005 = some (.ctrlwrMirrorxaddr 3) := by decide

/-! ## States -/

/-- The environment presents nothing. -/
def quiet : Inputs := ⟨0, 0, false, false⟩

/-- After reset, with a quiet environment. -/
def boot : State := { State.reset with inputs := quiet }

/-- System mode, exceptions enabled, a handler at 0x2000, the exception registers written. -/
def sys : State :=
  { boot with flags := 0xFF03, mirrorflags := 0xFF01, xaddr := 0x2000, pc := 0x1000, written := ⟨true, true, true⟩ }

/-- User mode, exceptions enabled: the end of P1. -/
def user : State := { sys with flags := 0xFF02, pc := 0x00400000 }

/-- The same with exceptions off. -/
def userOff : State := { user with flags := 0xFF00 }

/-- `s` with `v` in `x[r]`. -/
def State.reg (s : State) (r : Nat) (v : Word) : State := { s with regs := s.regs.set r v }

/-- `f` holds of the next state `exec` gives. -/
def does (i : Instr) (s : State) (f : State → Bool) : Bool :=
  match exec i s with
  | .next t => f t
  | .fault _ | .refused _ => false

/-- `f` holds of the next state of one step that runs the word `w`. -/
def steps (w : Nat) (s : State) (f : State → Bool) : Bool :=
  match step (s.withFetchWord 32 w) with
  | .next t => f t
  | .fault _ | .refused _ => false

/-- `exec` refuses, for this reason. -/
def refuses (i : Instr) (s : State) (r : Refusal) : Bool :=
  match exec i s with
  | .refused q => decide (q = r)
  | .next _ | .fault _ => false

/-- `exec` ends the run, for this reason. -/
def faults (i : Instr) (s : State) (f : Fault) : Bool :=
  match exec i s with
  | .fault g => decide (g = f)
  | .next _ | .refused _ => false

/-- The user program was interrupted and the handler runs (V9, P2): what entry writes, but for `EXCN`. -/
def inHandler (t : State) : Bool :=
  t.mirrorxaddr == 0x00400000 && t.flags == 0xFF01 && t.mirrorflags == 0xFF02 && t.pc == 0x2000 && t.xaddr == 0x2000

/-! ## Identification (V1) -/

theorem test_cpuid_values :
    cpuidValue Params.default = 0x0007010F ∧ cpuidValue { Params.default with cpuidByte3 := 0xA5 } = 0xA507010F ∧
    cpuidValue { Params.default with xlen := .x64, signature := 0xCAFEF00D } = 0xCAFEF00D0007010F := by decide
theorem test_ctrlrd_cpuid : steps 0x11040000 sys (fun t => readReg t 4 == 0x0007010F && t.pc == 0x1004) = true := by decide
theorem test_cpuid_of_other_counts :
    cpuidValue { Params.default with mmuSlots := 16, numGpr := 32 } = 0x000F011F ∧
    cpuidValue { Params.default with numGpr := 256 } = 0x000701FF := by decide
theorem test_ctrlwr_cpuid : refuses (.ctrlwrCpuid 1) sys .cpuidWrite = true := by decide

/-! ## Flags (V2, V3, V9, V10) -/

/-- The fields of a flags word, in the order of V2. -/
def flagFields (f : Word) : List Bool × Nat × List Bool :=
  ([flagSysmode f, flagExcnenable f, flagTmxenable f, flagHwxenable f, flagCpxenable f, flagCritical f, flagMmuenable f],
   flagRegprot f, [flagOverlordenable f, flagInstrendswap f, flagRemenable f])

theorem test_flag_fields :
    flagFields 0x0000FF46 = ([false, true, true, false, false, false, true], 255, [false, false, false]) ∧
    flagFields 0x00050743 = ([true, true, false, false, false, false, true], 7, [true, false, true]) ∧
    flagFields 0x00070F21 = ([true, false, false, false, false, true, false], 15, [true, true, true]) := by decide
theorem test_reserved_flags :
    flagsReservedClear 0x80 = false ∧ flagsReservedClear 0x80000 = false ∧ flagsReservedClear 0x1000000 = false ∧
    flagsReservedClear 0x0007FF7F = true := by decide
theorem test_ctrlrd_excn : does (.ctrlrdExcn 15) { sys with excn := 7 } (fun t => readReg t 15 == 7) = true := by decide
theorem test_ctrlwr_excn : refuses (.ctrlwrExcn 1) sys .excnWrite = true := by decide
theorem test_ctrlrd_flags_after_reset : does (.ctrlrdFlags 5) boot (fun t => readReg t 5 == 0x0000FF01) = true := by decide
theorem test_ctrlwr_flags_leaves_system_mode :
    does (.ctrlwrFlags 1) (State.reg boot 1 0xFF00) (fun t => !flagSysmode t.flags && t.pc == 4) = true := by decide
theorem test_ctrlwr_flags_reserved : refuses (.ctrlwrFlags 1) (State.reg boot 1 0x80) .reservedFlagBits = true := by decide
theorem test_ctrlrd_mirrorflags : does (.ctrlrdMirrorflags 0) sys (fun t => readReg t 0 == 0xFF01) = true := by decide
theorem test_ctrlwr_mirrorflags :
    does (.ctrlwrMirrorflags 2) (State.reg sys 2 0xFF46) (fun t => t.mirrorflags == 0xFF46 && t.flags == 0xFF03) = true := by
  decide
theorem test_ctrlwr_mirrorflags_reserved :
    refuses (.ctrlwrMirrorflags 2) (State.reg sys 2 0x1000000) .reservedFlagBits = true := by decide
theorem test_regprot :
    regAccessible { sys with flags := 0x0703 } 7 = true ∧ regAccessible { sys with flags := 0x0703 } 8 = false ∧
    regAccessible sys 15 = true ∧ regAccessible sys 16 = false ∧ regAccessible { sys with flags := 0x03 } 0 = true ∧
    regAccessible { sys with flags := 0x03 } 1 = false := by decide
/-- A part with 32 registers has `x[16]` to `x[31]`, and the effective limit stays the lower of the two (I16; log 32). -/
theorem test_register_count :
    let s : State := { sys with params := { Params.default with numGpr := 32 }, regs := List.replicate 32 0 }
    regAccessible s 16 = true ∧ regAccessible s 31 = true ∧ regAccessible s 32 = false ∧
    regAccessible { s with flags := 0x0703 } 8 = false ∧
    does (.ctrlrdXaddr 31) s (fun t => readReg t 31 == 0x2000 && readReg t 15 == 0) = true := by decide
theorem test_pc_wraps : does (.ctrlrdXaddr 1) { sys with pc := 0xFFFFFFFC } (fun t => t.pc == 0) = true := by decide
theorem test_regprot_exceptions_off :
    faults (.ctrlrdSystem0 8) { sys with flags := 0x0701 } (.exceptionsDisabled .regprot) = true := by decide

/-! ## Exception addresses and `MODESWITCH` (V9, P1, P2) -/

theorem test_ctrlrd_xaddr : does (.ctrlrdXaddr 1) sys (fun t => readReg t 1 == 0x2000) = true := by decide
theorem test_ctrlwr_xaddr : steps 0x12010004 (State.reg boot 1 0x2000) (fun t => t.xaddr == 0x2000 && t.pc == 4) = true := by
  decide
theorem test_ctrlrd_mirrorxaddr :
    does (.ctrlrdMirrorxaddr 5) { sys with mirrorxaddr := 0x00400000 } (fun t => readReg t 5 == 0x00400000) = true := by decide
theorem test_ctrlwr_mirrorxaddr :
    does (.ctrlwrMirrorxaddr 5) (State.reg sys 5 0x00400004) (fun t => t.mirrorxaddr == 0x00400004) = true := by decide
theorem test_modeswitch_returns :
    steps 0x03000000 { sys with flags := 0xFF01, mirrorflags := 0xFF46, mirrorxaddr := 0x00400014, excn := 9 }
      (fun t => t.flags == 0xFF46 && t.mirrorflags == 0xFF01 && t.pc == 0x00400014 && t.mirrorxaddr == 0x00400014 &&
        t.xaddr == 0x2000 && t.excn == 9) = true := by decide
/-- R146: each of the two registers written alone does not do. -/
theorem test_modeswitch_unset :
    refuses .modeswitch boot .modeSwitchUnset = true ∧
    refuses .modeswitch { boot with written := ⟨true, true, false⟩ } .modeSwitchUnset = true ∧
    refuses .modeswitch { boot with written := ⟨false, true, true⟩ } .modeSwitchUnset = true ∧
    does .modeswitch { boot with written := ⟨true, false, true⟩ } (fun t => t.pc == 0) = true := by decide
/-- I32: an entry over reset values; after `CTRLWR CTRL_XADDR` alone still. -/
theorem test_entry_unset :
    refuses (.ctrlrd 1 8) { boot with flags := 0xFF02 } (.handlerUnset .priv) = true ∧
    refuses (.ctrlrd 1 8) { boot with flags := 0xFF02, written := ⟨false, true, false⟩ } (.handlerUnset .priv) = true := by
  decide
theorem test_writes_are_noted :
    does (.ctrlwrMirrorflags 1) boot (fun t => t.written == ⟨true, false, false⟩) = true ∧
    does (.ctrlwrXaddr 1) boot (fun t => t.written == ⟨false, true, false⟩) = true ∧
    does (.ctrlwrMirrorxaddr 1) boot (fun t => t.written == ⟨false, false, true⟩) = true := by decide
theorem test_modeswitch_in_user_mode : does .modeswitch user inHandler = true := by decide
theorem test_user_read_traps : steps 0x01040000 user (fun t => inHandler t && readReg t 4 == 0) = true := by decide
theorem test_user_write_exceptions_off :
    faults (.ctrlwr 8 1) { user with flags := 0xFF44 } (.exceptionsDisabled .priv) = true := by decide

/-! ## TIMER0 (V4, V5, V6) -/

/-- The timer at the start of V4's rows. -/
def timer : Timer0 := ⟨1000, true, true, true, 2, 2⟩

theorem test_timer_write :
    timer0Write 0x00050307 timer = ⟨0, false, true, true, 3, 5⟩ ∧ timer0Write 0x3 timer = ⟨0, false, true, false, 0, 0⟩ ∧
    timer0Write 0x8 timer = ⟨1000, false, false, false, 0, 0⟩ ∧ timer0Write 0 timer = ⟨1000, true, false, false, 0, 0⟩ ∧
    timer0Write 0x000F0F06 timer = ⟨1000, true, true, true, 15, 15⟩ ∧
    timer0Write 0x0002020E timer = ⟨1000, false, true, true, 2, 2⟩ := by decide
theorem test_thresholds : threshold 0 = 16 ∧ threshold 1 = 32 ∧ threshold 15 = 524288 := by decide
theorem test_ctrlwr_timer0_reserved : ([0x10, 0x1000, 0x100000].all fun v =>
    refuses (.ctrlwrTimer0 1) (State.reg sys 1 v) .reservedTimerBits) = true := by decide
theorem test_ctrlwr_timer0 :
    does (.ctrlwrTimer0 1) (State.reg { sys with timer0 := timer } 1 0x00050307)
      (fun t => t.timer0 == ⟨0, false, true, true, 3, 5⟩) = true := by decide
theorem test_timer_read :
    timer0ReadView { timer with count := 0x1234 } = 0x1201 ∧ timer0ReadView ⟨0xFF, false, true, true, 1, 1⟩ = 0 ∧
    timer0ReadView ⟨0x100, false, false, false, 0, 0⟩ = 0x100 ∧
    timer0ReadView { timer with count := 0xFFFFFFFF } = 0xFFFFFF01 := by decide
theorem test_ctrlrd_timer0_sees_its_own_tick :
    steps 0x11030006 { boot with timer0 := ⟨15, false, true, false, 0, 0⟩ }
      (fun t => readReg t 3 == 1 && t.timer0.count == 16) = true := by decide
theorem test_tick_wraps : (timerTick { sys with timer0 := ⟨0xFFFFFFFF, false, false, false, 0, 0⟩ }).timer0.count = 0 := by decide
theorem test_tick_alarm_and_forget :
    (timerTick { sys with timer0 := ⟨15, false, true, true, 0, 0⟩ }).timer0 = ⟨0, true, true, true, 0, 0⟩ := by decide
/-- P5, step 21. -/
theorem test_timer_exception :
    steps 0x11060008 { sys with flags := 0xFF07, pc := 0x1138, timer0 := ⟨15, false, true, true, 0, 0⟩ }
      (fun t => t.mirrorxaddr == 0x1138 && t.flags == 0xFF01 && t.mirrorflags == 0xFF07 && t.pc == 0x2000 &&
        t.timer0 == ⟨0, false, true, true, 0, 0⟩ && readReg t 6 == 0) = true := by decide

/-! ## Storage, pins, numbers without a register (V10) -/

theorem test_ctrlrd_system0 :
    does (.ctrlrdSystem0 6) { sys with system0 := 0xABCD } (fun t => readReg t 6 == 0xABCD) = true := by decide
theorem test_ctrlwr_system0 :
    does (.ctrlwrSystem0 1) (State.reg sys 1 0xDEADBEEF) (fun t => t.system0 == 0xDEADBEEF && t.system1 == 0) = true := by decide
theorem test_ctrlrd_system1 :
    does (.ctrlrdSystem1 6) { sys with system0 := 1, system1 := 2 } (fun t => readReg t 6 == 2) = true := by decide
theorem test_ctrlwr_system1 :
    does (.ctrlwrSystem1 1) (State.reg sys 1 1) (fun t => t.system1 == 1 && t.system0 == 0) = true := by decide
/-- A machine with eight GPIOA pins and four PROCESSORS pins. -/
def pins : State :=
  { sys with params := { Params.default with gpioaWidth := 8, procWidth := 4 }, inputs := ⟨0xF09, 0xFF, false, false⟩ }
theorem test_ctrlrd_gpioa : does (.ctrlrdGpioaPins 1) pins (fun t => readReg t 1 == 0x9) = true := by decide
theorem test_ctrlwr_gpioa :
    does (.ctrlwrGpioaPins 1) (State.reg pins 1 0x1FF)
      (fun t => t.gpioaOut == 0xFF && t.outEvents == [.gpioaPins 0xFF] && t.procOut == 0) = true := by decide
theorem test_ctrlrd_processors : does (.ctrlrdProcessors 1) pins (fun t => readReg t 1 == 0xF) = true := by decide
theorem test_ctrlwr_processors :
    does (.ctrlwrProcessors 1) (State.reg pins 1 0x1FF)
      (fun t => t.procOut == 0xF && t.outEvents == [.procPins 0xF] && t.gpioaOut == 0) = true := by decide
theorem test_unassigned_numbers : ∀ cn ∈ [0x07, 0x0B, 0x18, 0x28, 0x38],
    refuses (.ctrlrd 1 cn) sys (.unassignedControlRegister cn) = true ∧
    refuses (.ctrlwr cn 1) sys (.unassignedControlRegister cn) = true := by decide
theorem test_timer1 :
    refuses (.ctrlrdTimer1 1) sys (.unassignedControlRegister 7) = true ∧
    refuses (.ctrlwrTimer1 1) sys (.unassignedControlRegister 7) = true := by decide
theorem test_unassigned_in_user_mode :
    does (.ctrlrdUnassigned 1 0x38) user inHandler = true ∧ does (.ctrlwrUnassigned 0x38 1) user inHandler = true := by decide

/-! ## The MMU and overlord registers, read and written (R125 to R130) -/

/-- Every MMU and overlord register holds its own number. -/
def numbered : State :=
  { sys with
    mmuX := Vector.ofFn fun n => 0x10 + BitVec.ofNat 64 n
    mmuY := Vector.ofFn fun n => 0x20 + BitVec.ofNat 64 n
    overlord := #v[0x30, 0x31, 0x32, 0x33, 0x34, 0x35, 0x36, 0x37] }

/-- The numbers of the MMU and overlord registers. -/
def bankNumbers : List Nat :=
  (List.range 8).map (0x10 + ·) ++ (List.range 8).map (0x20 + ·) ++ (List.range 8).map (0x30 + ·)

theorem test_bank_reads : ∀ cn ∈ bankNumbers,
    ((readForms.lookup cn).any fun form =>
      does (form 1) numbered fun t => readReg t 1 == BitVec.ofNat 64 cn) = true := by decide
/-- The word at 0x1000 is `CTRLWR.<register> 1`, and the register's own read gives the value back; a neighbour keeps its
number. -/
theorem test_bank_writes : ∀ cn ∈ bankNumbers,
    ((writeForms.lookup cn).any fun form => (ctrlRegOf Params.default cn).any fun reg =>
      (ctrlRegOf Params.default (cn ^^^ 1)).any fun neighbour => does (form 1) (State.reg numbered 1 0xFEDCBA98) fun t =>
        ctrlRead reg t == 0xFEDCBA98 && ctrlRead neighbour t == BitVec.ofNat 64 (cn ^^^ 1)) = true := by decide
/-- With sixteen slots the number 0x18 names `MMU_X[8]`, with four 0x14 names nothing (log 29). -/
theorem test_slot_numbers :
    ctrlRegOf { Params.default with mmuSlots := 16 } 0x18 = some (.mmuX 8) ∧
    ctrlRegOf { Params.default with mmuSlots := 16 } 0x2F = some (.mmuY 15) ∧
    ctrlRegOf { Params.default with mmuSlots := 4 } 0x13 = some (.mmuX 3) ∧
    ctrlRegOf { Params.default with mmuSlots := 4 } 0x14 = none ∧ ctrlRegOf Params.default 0x18 = none := by decide
theorem test_overlord_write_drops_high_bits :
    does (.ctrlwrOverlord0 1)
      (State.reg { numbered with params := { Params.default with xlen := .x64 } } 1 0xFFFFFFFF00000001)
      (fun t => ctrlRead (.overlord 0) t == 1) = true := by decide
theorem test_overlord_bits :
    let s := { sys with overlord := #v[0x80000001, 1, 0x80, 0, 0, 0, 0, 0x80000000] }
    (List.range 256).filter (fun i => overlordBit s (BitVec.ofNat 8 i)) = [0, 31, 32, 71, 255] := by decide

/-! ## Translation (V7) -/

/-- V7's slots, MMU on, user mode. -/
def mapped : State :=
  { user with
    flags := 0xFF42
    mmuX := (((user.mmuX.set 0 0x004002A2).set 1 0x00400264).set 2 0x008002F0).set 3 0x00001360
    mmuY := (((user.mmuY.set 0 0x000123FF).set 1 0x00020000).set 2 0x00000400).set 3 0x0000F000 }

/-- The same in system mode. -/
def mappedSys : State := { mapped with flags := 0xFF43 }

theorem test_translate_maps :
    translate mapped .fetch 0x00400ABC 4 = .ok 0x00012ABC ∧ translate mapped .read 0x00400FFF 1 = .ok 0x00012FFF ∧
    translate mapped .write 0x00401010 4 = .ok 0x00021010 ∧ translate mapped .iowrite 0x00001008 4 = .ok 0x0000F008 ∧
    translate mappedSys .read 0x00800004 4 = .ok 0x00000404 ∧ translate mappedSys .read 0x008003FF 1 = .ok 0x000007FF ∧
    translate user .write 0x00001234 4 = .ok 0x00001234 := by decide
theorem test_translate_denies :
    translate mapped .write 0x00400010 4 = .error (.raise .bus) ∧ translate mapped .fetch 0x00401000 4 = .error (.raise .fetch) ∧
    translate mapped .fetch 0x00404000 4 = .error (.raise .fetch) ∧ translate mapped .read 0x003FFFFF 1 = .error (.raise .bus) ∧
    translate mapped .read 0x00800004 4 = .error (.raise .bus) ∧ translate mappedSys .read 0x00800400 4 = .error (.raise .bus) ∧
    translate mapped .read 0x00001008 4 = .error (.raise .bus) ∧
    translate mapped .ioread 0x00400000 4 = .error (.raise .bus) := by decide
theorem test_translate_refuses :
    translate mapped .read 0x00400FFE 4 = .error (.refuse (.crossesSlotEnd 0)) ∧
    translate { mapped with mmuX := mapped.mmuX.set 0 0x004006A2 } .read 0x00400FF0 4 = .error (.refuse (.misalignedSlot 0)) ∧
    translate { mapped with mmuX := mapped.mmuX.set 0 0x004000A2 } .read 0x00400FF0 4 = .ok 0x00020FF0 := by decide
/-- A slot past the last one there is never matches (R69). -/
theorem test_translate_slot_count :
    translate { mapped with params := { Params.default with mmuSlots := 1 } } .write 0x00401010 4 = .error (.raise .bus) ∧
    translate { mapped with params := { Params.default with mmuSlots := 2 } } .write 0x00401010 4 = .ok 0x00021010 := by decide
theorem test_slot_sizes : slotSize 0 = 1024 ∧ slotSize 15 = 0x02000000 := by decide
/-- The last instruction of P4, at virtual 0x00400030. -/
theorem test_fetch_through_slot :
    steps 0x11050002
      { boot with flags := 0xFF41, pc := 0x00400030, mmuX := boot.mmuX.set 0 0x004002F2, mmuY := boot.mmuY.set 0 0x00001000 }
      (fun t => readReg t 5 == 0xFF41 && memRead t.mem 0x1033 == some 0x11) = true := by decide

/-! ## Memory and data accesses -/

theorem test_write_keeps_order : memWrite (memWrite (memWrite [] 5 1) 3 2) 5 7 = [(3, 2), (5, 7)] := by decide
theorem test_data_orders :
    bytesValue .little [0x78, 0x56, 0x34, 0x12] = 0x12345678 ∧ bytesValue .big [0x12, 0x34, 0x56, 0x78] = 0x12345678 ∧
    valueBytes .little 2 0x1234 = [0x34, 0x12] ∧ valueBytes .big 2 0x1234 = [0x12, 0x34] := by decide
theorem test_access_wraps :
    (storeData sys 0xFFFFFFFE 4 0x44332211).toOption.map (·.mem) =
      some [(0, 0x33), (1, 0x44), (0xFFFFFFFE, 0x11), (0xFFFFFFFF, 0x22)] := by decide
/-- R72, I33: a misaligned data access with and without an exception for it; R154: the I/O bus fails an access. -/
theorem test_data_access :
    dataAccess sys .read 0x1002 4 = .ok 0x1002 ∧
    dataAccess { sys with params := { Params.default with misalignedData := some 5 } } .read 0x1002 4 =
      .error (.raise (.other 5)) ∧
    dataAccess { sys with params := { Params.default with misalignedData := some 5 } } .iowrite 0x1002 2 = .ok 0x1002 ∧
    dataAccess { sys with params := { Params.default with ioHoles := [⟨0x1003, 1⟩] } } .ioread 0x1000 4 = .error (.raise .bus) ∧
    dataAccess { sys with params := { Params.default with ioHoles := [⟨0x1003, 1⟩] } } .read 0x1000 4 = .ok 0x1000 := by decide
theorem test_unwritten_read : loadData sys 0x100 1 = .error (.fault (.unwrittenMemory 0x100)) := by decide

/-! ## Reset (R37) -/

theorem test_reset_memory_form : Memory.wf State.reset.mem := by decide
theorem test_reset_registers :
    State.reset.flags = 0xFF01 ∧ State.reset.pc = 0 ∧ State.reset.gpioaOut = 0 ∧ State.reset.timer0.dingdong = false ∧
    State.reset.timer0.alarmEn = false ∧ State.reset.timer0.forgetEn = false := by decide

/-! ## Witnesses -/

/-- An instruction whose operands have the largest values their fields admit (`DecodeOfEncodedInstruction`). -/
theorem witness_DecodeOfEncodedInstruction : (Instr.ctrlrd 255 65535).WellFormed ∧ (Instr.ctrlwrOverlord7 0).WellFormed := by
  decide
theorem witness_DecodedWordsReencode : decodeWord 0x12FF0037 = .ok (.ctrlwrOverlord7 255) := by decide
theorem witness_PlacedWordIsFetched : fetchAddr boot = .ok 0 ∧ fetchAddr mapped = .ok 0x00012000 := by decide

/-- A machine at 0x1000, in either byte order, with `CTRLRD.CTRL_FLAGS 5` there. -/
def loaded (swap : Bool) : State :=
  ({ sys with flags := if swap then 0x2FF03 else 0xFF03 } : State).withFetchWord 32 0x11050002

theorem witness_StepRunsDecodedInstruction : ∀ swap : Bool,
    let s := loaded swap
    asyncRequest (alarmNow s) (timerTick s) = none ∧ fetchAddr s = .ok 0x1000 ∧
    ∃ b0 b1 b2 b3 : Byte,
      memRead s.mem (byteAddr s.params 0x1000 0) = some b0 ∧ memRead s.mem (byteAddr s.params 0x1000 1) = some b1 ∧
      memRead s.mem (byteAddr s.params 0x1000 2) = some b2 ∧ memRead s.mem (byteAddr s.params 0x1000 3) = some b3 ∧
      flagRemenable s.flags = false ∧ overloaded s (seenWord s b0 b1 b2 b3) = false ∧
      decodeWord (seenWord s b0 b1 b2 b3) = .ok (.ctrlrdFlags 5) ∧ (Instr.ctrlrdFlags 5).WellFormed := by
  intro swap
  cases swap
  · exact ⟨by decide, by decide, 0x02, 0x00, 0x05, 0x11, by decide⟩
  · exact ⟨by decide, by decide, 0x11, 0x05, 0x00, 0x02, by decide⟩

/-- `loaded` with `remenable` set. -/
def emulating : State := { loaded false with flags := 0x4FF03 }

theorem witness_RiscEmulationIsRefused :
    asyncRequest (alarmNow emulating) (timerTick emulating) = none ∧ fetchWord emulating = .ok 0x11050002 ∧
    flagRemenable emulating.flags = true := by decide

/-- A word that is no instruction, on a machine that raises `XK_OTHER 3` for it, or not. -/
def strange (c : Option Nat) : State :=
  ({ sys with params := { Params.default with unimplemented := c } } : State).withFetchWord 32 0xFF000000

theorem witness_UnimplementedWordStops : ∀ c ∈ [none, some 3],
    let s := strange c
    asyncRequest (alarmNow s) (timerTick s) = none ∧ fetchWord s = .ok 0xFF000000 ∧ flagRemenable s.flags = false ∧
    overloaded s 0xFF000000 = false ∧ decodeWord 0xFF000000 = .error (.unknownOpcode 0xFF) ∧ s.params.unimplemented = c ∧
    flagExcnenable s.flags = true ∧ EntryReady s := by decide

theorem witness_UserModeInstructionsTrap :
    flagSysmode user.flags = false ∧ flagExcnenable user.flags = true ∧ EntryReady user ∧
    entryReady { user with written := ⟨true, false, true⟩ } = false ∧
    (∀ i r cn dir, accessOf i = some (r, cn, dir) → (cn, dir) ∉ user.params.userCtrlSafe) ∧
    flagSysmode userOff.flags = false ∧ flagExcnenable userOff.flags = false ∧
    ∀ i r cn dir, accessOf i = some (r, cn, dir) → (cn, dir) ∉ userOff.params.userCtrlSafe :=
  ⟨by decide, by decide, by decide, by decide, fun _ _ _ _ _ => List.not_mem_nil, by decide, by decide, fun _ _ _ _ _ => List.not_mem_nil⟩

/-- Protection 7 with register 8 named, and protection 255 with register 16 named, exceptions on and off. -/
theorem witness_ProtectedRegisterTraps :
    ∀ p ∈ [((0x0703 : Word), 8), (0x0701, 8), (0xFF03, 16), (0xFF01, 255)],
      let s : State := { sys with flags := p.1 }
      accessOf (.ctrlwrXaddr p.2) = some (p.2, 4, .write) ∧ ctrlAllowed s 4 .write = true ∧
      (flagRegprot s.flags < p.2 ∨ s.params.numGpr ≤ p.2) ∧ EntryReady s := by decide

/-- Every overlord bit set, exceptions on or off. -/
def watched (excn : Bool) : State :=
  ({ sys with flags := if excn then 0x1FF03 else 0x1FF01, overlord := Vector.replicate 8 0xFFFFFFFF } : State).withFetchWord 32 0

theorem watched_bits (excn : Bool) (i : BitVec 8) : overlordBit (watched excn) i = true := by
  have h : (watched excn).overlord = Vector.replicate 8 0xFFFFFFFF := by cases excn <;> rfl
  have hi := i.isLt
  have hb : ∀ k : Fin 32, (0xFFFFFFFF : BitVec 32).getLsbD k.val = true := by decide
  simp only [overlordBit, h, Vector.getElem_replicate]
  exact hb ⟨i.toNat % 32, by omega⟩

theorem witness_OverloadedInstructionTraps : ∀ excn : Bool,
    let s := watched excn
    asyncRequest (alarmNow s) (timerTick s) = none ∧ fetchWord s = .ok 0 ∧ flagRemenable s.flags = false ∧
    flagOverlordenable s.flags = true ∧ overlordBit s (Config.ovlIndex 0) = true ∧ flagExcnenable s.flags = excn ∧
    EntryReady s := by
  intro excn
  refine ⟨?_, ?_, ?_, ?_, watched_bits excn _, ?_, ?_⟩ <;> revert excn <;> decide

/-- The MMU on, the only slot ending right before `pc`. -/
def unmapped (excn : Bool) : State :=
  { sys with flags := if excn then 0xFF43 else 0xFF41, mmuX := sys.mmuX.set 7 0xE80, pc := 0x1000 }

theorem witness_UnmappedFetchTraps : ∀ excn : Bool,
    let s := unmapped excn
    asyncRequest (alarmNow s) (timerTick s) = none ∧ s.params.misalignedPc = none ∧ flagMmuenable s.flags = true ∧
    slotApplies s.mmuX[7] .fetch = true ∧
    (∀ n : Fin 16, n.val < s.params.mmuSlots → slotApplies s.mmuX[n] .fetch = true →
      slotAligned s.mmuX[n] s.mmuY[n] = true ∧ slotCovers s.mmuX[n] s.pc = false) ∧
    flagExcnenable s.flags = excn ∧ EntryReady s := by decide

/-- V7's slots in user mode, about to fetch at `pc`; the handler's flags, and exceptions on or off. -/
def fetching (excn : Bool) (pc : Word) : State :=
  { mapped with flags := if excn then 0xFF42 else 0xFF40, pc := pc }

/-- The bus answers nothing from 0x1002 to 0x1003, and a misaligned `pc` raises `XK_OTHER 4`. -/
def fetchingHole (excn : Bool) (pc : Word) : State :=
  { sys with
    flags := if excn then 0xFF03 else 0xFF01, pc := pc
    params := { Params.default with busHoles := [⟨0x1002, 2⟩], misalignedPc := some 4 } }

/-- The other causes of a failed fetch: slot 1 without `instr` at its first word, the system slot 2 at its last word, a hole in the last
byte fetched, a `pc` that is no multiple of 4; each before the handler is set, too. -/
theorem witness_UnmappedFetchTraps_causes : ∀ excn : Bool,
    (let s := fetching excn 0x00401000;
      asyncRequest (alarmNow s) (timerTick s) = none ∧ s.params.misalignedPc = none ∧ flagMmuenable s.flags = true ∧
      lowestMatch s .fetch s.pc = .ok (some 1) ∧ slotInstr s.mmuX[1] = false ∧ flagExcnenable s.flags = excn ∧ EntryReady s) ∧
    (let s := fetching excn 0x008003FC;
      asyncRequest (alarmNow s) (timerTick s) = none ∧ lowestMatch s .fetch s.pc = .ok (some 2) ∧
      slotSystem s.mmuX[2] = true ∧ flagSysmode s.flags = false ∧ slotInstr s.mmuX[2] = true) ∧
    (let s := fetchingHole excn 0x1000;
      asyncRequest (alarmNow s) (timerTick s) = none ∧ s.pc.toNat % 4 = 0 ∧ translate s .fetch s.pc 4 = .ok 0x1000 ∧
      busAnswers s .fetch 0x1000 4 = false ∧ fetchAddr s = .error (.raise .fetch) ∧ flagExcnenable s.flags = excn ∧ EntryReady s) ∧
    (let s := fetchingHole excn 0x1006;
      asyncRequest (alarmNow s) (timerTick s) = none ∧ s.params.misalignedPc = some 4 ∧ s.pc.toNat % 4 ≠ 0 ∧
      fetchAddr s = .error (.raise (.other 4))) ∧
    entryReady { fetching excn 0x00401000 with written := ⟨true, false, true⟩ } = false := by decide
/-- V7, R153: an instruction fetched from a slot without `instr`, and from a hole of the bus, is a fetch exception at its own address. -/
theorem test_failed_fetch_traps :
    (match step (fetching true 0x00401000) with
      | .next t => t.mirrorxaddr == 0x00401000 && t.pc == 0x2000 && t.flags == 0xFF01 && t.mirrorflags == 0xFF42
      | .fault _ | .refused _ => false) = true ∧
    (match step (fetchingHole true 0x1000) with
      | .next t => t.mirrorxaddr == 0x1000 && t.pc == 0x2000
      | .fault _ | .refused _ => false) = true := by decide

theorem witness_ExceptionEntryEffect :
    (flagExcnenable sys.flags = true ∧ sys.written.xaddr = true ∧ sys.written.mirrorflags = true) ∧
    (∀ w ∈ [Written.mk true false true, Written.mk false true true],
      flagExcnenable ({ sys with written := w } : State).flags = true ∧ (w.xaddr = false ∨ w.mirrorflags = false)) ∧
    flagExcnenable boot.flags = false := by decide
theorem witness_SystemCallTakesException : flagExcnenable user.flags = true ∧ EntryReady user := by decide

/-- All enables on; the count at 15 fires the alarm, at 0 does not. -/
def asked (count : Word) (hw cp : Bool) : State :=
  { sys with flags := 0xFF1F, timer0 := ⟨count, false, true, false, 0, 0⟩, inputs := ⟨0, 0, hw, cp⟩ }

/-- `asked` with `ASYNC_MODE` = `level`. -/
def standing (dingdong : Bool) : State :=
  { asked 0 false false with
    params := { Params.default with asyncMode := .level }, timer0 := ⟨0, dingdong, true, false, 0, 0⟩ }

/-- With `edge`: each of the three first, and none. With `level`: dingdong up and no alarm requests the timer's, which no `edge` does; down,
nothing does. -/
theorem witness_AsynchronousPriority :
    (∀ s ∈ [asked 15 true true, asked 0 true true, asked 0 false true, asked 0 false false, standing true, standing false],
      flagExcnenable s.flags = true ∧ EntryReady s ∧ flagTmxenable s.flags = true ∧ flagHwxenable s.flags = true ∧
      flagCpxenable s.flags = true) ∧
    TimerRequested (asked 15 true true) ∧
    (¬ TimerRequested (asked 0 true true) ∧ (asked 0 true true).inputs.hwReq = true) ∧
    (¬ TimerRequested (asked 0 false true) ∧ (asked 0 false true).inputs.hwReq = false ∧
      (asked 0 false true).inputs.cpReq = true) ∧
    (¬ TimerRequested (asked 0 false false) ∧ (asked 0 false false).inputs.cpReq = false) ∧
    (TimerRequested (standing true) ∧ alarmNow (standing true) = false) ∧
    (¬ TimerRequested (standing false) ∧ (standing false).inputs.hwReq = false ∧ (standing false).inputs.cpReq = false) ∧
    ¬ TimerRequested { standing true with params := Params.default } := by decide
/-- V6, third and fourth row: dingdong up from an earlier alarm, `tmxenable` now set. -/
theorem test_standing_dingdong :
    steps 0x11060008 (standing true)
      (fun t => t.mirrorxaddr == 0x1000 && t.pc == 0x2000 && !t.timer0.dingdong && readReg t 6 == 0) = true ∧
    steps 0x11060008 { standing true with params := Params.default }
      (fun t => t.pc == 0x1004 && t.timer0.dingdong) = true := by decide
theorem witness_OneExceptionEntryPoint :
    (∃ t, raiseException .syscall sys = .next t) ∧
    asyncRequest (alarmNow (asked 0 true true)) (timerTick (asked 0 true true)) = some .hw ∧
    ∃ t, step (asked 0 true true) = .next t :=
  ⟨⟨_, rfl⟩, by decide, _, rfl⟩
theorem witness_DisabledRequestsAreNotTaken :
    ∀ p ∈ [(asked 15 true true, ExcKind.timer), (asked 0 true true, .hw), (asked 0 false true, .cp), (standing true, .timer)],
      asyncRequest (alarmNow p.1) (timerTick p.1) = some p.2 := by decide
theorem witness_TimerEntryClearsDingdong :
    asyncRequest (alarmNow (asked 15 true true)) (timerTick (asked 15 true true)) = some .timer ∧
    EntryReady (asked 15 true true) := by decide

theorem witness_ModeSwitchEffect :
    (flagSysmode sys.flags = true ∧ sys.written.mirrorflags = true ∧ sys.written.mirrorxaddr = true) ∧
    flagSysmode boot.flags = true ∧ boot.written.mirrorflags = false ∧ boot.written.mirrorxaddr = false := by decide
theorem witness_HandlerReturnsToInterruptedCode :
    flagSysmode user.mirrorflags = true ∧ user.written.mirrorflags = true := by decide

/-- Every register may be read and written in system mode; one register is open to user mode where `USER_CTRL_SAFE` says so
(every statement about a read or a write that passes its checks). -/
theorem witness_access_passes :
    (∀ cn : Fin 64, ∀ r ∈ [0, 15], ReadPasses sys r cn ∧ WritePasses sys r cn) ∧
    ReadPasses { user with params := { Params.default with userCtrlSafe := [(8, .read)] } } 15 8 ∧
    ¬ WritePasses { user with params := { Params.default with userCtrlSafe := [(8, .read)] } } 15 8 := by decide
theorem witness_ReadOfPins : ParamsLegal pins.params ∧ ReadPasses pins 15 0xA ∧ ReadPasses pins 15 0xF := by decide
theorem witness_WriteOfPins : ParamsLegal pins.params ∧ WritePasses pins 15 0xA ∧ WritePasses pins 15 0xF := by decide
theorem witness_NumberedReadCompletes : ReadPasses sys 15 0x37 ∧ ctrlRegOf sys.params 0x37 = some (.overlord 7) ∧
    sys.regs.length = sys.params.numGpr := by decide
/-- The last slot's registers (`ReadOfMmuRegisters`, `WriteOfMmuRegisters`). -/
theorem witness_mmu_registers : 7 < sys.params.mmuSlots ∧ ReadPasses sys 15 0x17 ∧ WritePasses sys 15 0x27 := by decide
theorem witness_NumberedWriteOutcome : WritePasses sys 15 0x20 ∧ ctrlRegOf sys.params 0x20 = some (.mmuY 0) := by decide
theorem witness_WriteOfReturnAddress : WritePasses sys 15 5 ∧ flagSysmode sys.flags = true ∧
    sys.written.mirrorflags = true := by decide

/-- Each reserved bit next to a field, and values with no assigned bit and with every assigned bit. -/
theorem witness_WriteOfFlagsRegisters :
    ([0x80, 0x80000, 0x800000, 0x1000000, 0x80000000].all fun v => let s := State.reg sys 15 v
      decide (WritePasses s 15 2) && decide (WritePasses s 15 3) && decide (readReg s 15 &&& 0xFFFFFFFFFFF80080#64 ≠ 0#64)) = true ∧
    ([0, 0x0007FF7F].all fun v => let s := State.reg sys 15 v
      decide (WritePasses s 15 2) && decide (WritePasses s 15 3) &&
        decide (readReg s 15 &&& 0xFFFFFFFFFFF80080#64 = 0#64)) = true := by decide
theorem witness_WriteOfTimer :
    ([0x10, 0x80, 0x1000, 0x8000, 0x100000].all fun v => let s := State.reg sys 15 v
      decide (WritePasses s 15 6) && decide (readReg s 15 &&& 0xFFFFFFFFFFF0F0F0#64 ≠ 0#64)) = true ∧
    ([0, 0x000F0F0F].all fun v => let s := State.reg sys 15 v
      decide (WritePasses s 15 6) && decide (readReg s 15 &&& 0xFFFFFFFFFFF0F0F0#64 = 0#64)) = true := by decide
theorem witness_UnassignedNumbersAreRefused :
    (∀ cn ∈ [0x0B, 0x0E, 0x18, 0x1F, 0x28, 0x2F, 0x38],
      CtrlUnassigned cn ∧ sys.params.mmuSlots ≤ 8 ∧ ReadPasses sys 15 cn ∧ WritePasses sys 15 cn) ∧
    (accessOf (.ctrlwr 7 15) = some (15, 7, .write) ∧ WritePasses sys 15 7 ∧ ctrlRegOf sys.params 7 = none) ∧
    ReadPasses sys 15 7 := by decide

/-- The alarm about to fire; dingdong set and the timer's request standing; dingdong set and `Sleep` about to be written. -/
theorem witness_DingdongRisesAndFalls :
    (∃ t, step (State.withFetchWord { boot with timer0 := ⟨15, false, true, false, 0, 0⟩ } 32 0x11030006) = .next t ∧
      t.timer0.dingdong = true) ∧
    (∃ t, step (State.withFetchWord { asked 15 false false with timer0 := ⟨15, true, true, false, 0, 0⟩ } 32 0) = .next t ∧
      t.timer0.dingdong = false) ∧
    (∃ t, step (State.withFetchWord { State.reg boot 2 8 with timer0 := ⟨0, true, true, false, 0, 0⟩ } 32 0x12020006) = .next t ∧
      t.timer0.dingdong = false) :=
  ⟨⟨_, rfl, rfl⟩, ⟨_, rfl, rfl⟩, ⟨_, rfl, rfl⟩⟩

theorem witness_MmuRegistersArePlainStorage :
    flagMmuenable sys.flags = false ∧ slotEnabled mapped.mmuX[7] = false ∧ slotEnabled 0xFFFFFFFFFFFFFDFF = false := by decide
/-- The second slot is the least match, after one that does not cover the address; and nothing matches one past the end. -/
theorem witness_LowestMatchIsTheLeast :
    (slotMatches mapped.mmuX[1] .read 0x00401000 = true ∧
      (∀ m : Fin 16, m < 1 → slotMatches mapped.mmuX[m] .read 0x00401000 = false) ∧
      ∀ m : Fin 16, m ≤ 1 → slotApplies mapped.mmuX[m] .read = true → slotAligned mapped.mmuX[m] mapped.mmuY[m] = true) ∧
    (∀ n : Fin 16, slotMatches mapped.mmuX[n] .read 0x00404000 = false) ∧
    ∀ n : Fin 16, slotApplies mapped.mmuX[n] .read = true → slotAligned mapped.mmuX[n] mapped.mmuY[n] = true := by decide
/-- No match, a system slot in user mode, and each of the three permissions missing. -/
theorem witness_DeniedAccessRaises :
    flagMmuenable mapped.flags = true ∧ lowestMatch mapped .fetch 0x00404000 = .ok none ∧
    (lowestMatch mapped .read 0x00800004 = .ok (some 2) ∧ slotSystem mapped.mmuX[2] = true ∧ flagSysmode mapped.flags = false) ∧
    (lowestMatch mapped .write 0x00400000 = .ok (some 0) ∧ slotWrite mapped.mmuX[0] = false) ∧
    (lowestMatch mapped .fetch 0x00401000 = .ok (some 1) ∧ slotInstr mapped.mmuX[1] = false) ∧
    (lowestMatch { mapped with mmuX := mapped.mmuX.set 0 0x00400282 } .read 0x00400000 = .ok (some 0) ∧
      slotRead ({ mapped with mmuX := mapped.mmuX.set 0 0x00400282 } : State).mmuX[0] = false) := by decide

/-- The general registers of these machines are zero. -/
theorem zero_fits {p : Params} {v : Word} (h : v ∈ List.replicate 16 (0 : Word)) : FitsXlen p v := by
  rw [List.eq_of_mem_replicate h]
  exact Nat.two_pow_pos _

theorem mapped_legal : State.Legal mapped := by
  constructor <;> first | exact fun _ => zero_fits | decide

theorem witness_TranslatedAddress :
    State.Legal mapped ∧ FitsXlen mapped.params 0x00400FFC ∧ flagMmuenable mapped.flags = true ∧
    lowestMatch mapped .read 0x00400FFC = .ok (some 0) ∧ permitted mapped mapped.mmuX[0] .read = true ∧
    (0x00400FFC : Word).toNat + 4 ≤ (slotBase mapped.mmuX[0]).toNat + slotSize mapped.mmuX[0] ∧
    translate mapped .read 0x00400FFC 4 = .ok 0x00012FFC :=
  ⟨mapped_legal, by decide, by decide, by decide, by decide, by decide, by decide⟩

/-- Slot 1 enabled and off its size. -/
def skewed : State := { mapped with mmuX := mapped.mmuX.set 1 0x00400664 }

/-- An access that ends one byte past its slot; an enabled slot off its size, met first. -/
theorem witness_SlotRefusals :
    (flagMmuenable mapped.flags = true ∧ lowestMatch mapped .read 0x00400FFD = .ok (some 0) ∧
      permitted mapped mapped.mmuX[0] .read = true ∧
      (slotBase mapped.mmuX[0]).toNat + slotSize mapped.mmuX[0] < (0x00400FFD : Word).toNat + 4) ∧
    flagMmuenable skewed.flags = true ∧ slotApplies skewed.mmuX[1] .read = true ∧
    slotAligned skewed.mmuX[1] skewed.mmuY[1] = false ∧
    ∀ m : Fin 16, m < 1 → slotMatches skewed.mmuX[m] .read 0 = false ∧
      (slotApplies skewed.mmuX[m] .read = true → slotAligned skewed.mmuX[m] skewed.mmuY[m] = true) := by decide

/-- The buses answer nothing from 0x1002 to 0x1003, and misaligned accesses raise `XK_OTHER 5`. -/
def holed : State :=
  { sys with
    params := { Params.default with busHoles := [⟨0x1002, 2⟩], ioHoles := [⟨0x1002, 2⟩], misalignedPc := some 4,
                                    misalignedData := some 5 } }

theorem witness_BusFailureRaises :
    (translate holed .fetch holed.pc 4 = .ok 0x1000 ∧ busAnswers holed .fetch 0x1000 4 = false ∧
      holed.pc.toNat % 4 = 0) ∧
    (({ holed with pc := 0x1002 } : State).params.misalignedPc = some 4 ∧
      ({ holed with pc := 0x1002 } : State).pc.toNat % 4 ≠ 0) ∧
    (∀ k ∈ [AccessKind.read, .write, .ioread, .iowrite], k ≠ .fetch ∧ dataAligned holed 0x1000 4 = true ∧
      translate holed k 0x1000 4 = .ok 0x1000 ∧ busAnswers holed k 0x1000 4 = false) ∧
    (dataAligned mapped 0x00404000 4 = true ∧ translate mapped .ioread 0x00404000 4 = .error (.raise .bus)) ∧
    (holed.params.misalignedData = some 5 ∧ (0x1001 : Word).toNat % 2 ≠ 0) ∧
    (flagExcnenable holed.flags = true ∧ EntryReady holed ∧ loadData holed 0x1000 4 = .error (.raise .bus)) ∧
    storeData holed 0x1000 4 0 = .error (.raise .bus) ∧
    (flagExcnenable boot.flags = false ∧ entryReady { sys with written := ⟨false, true, true⟩ } = false) := by decide
/-- Slot 1 writable and not readable (20_memory.md R63). -/
def unreadable : State := { mapped with mmuX := mapped.mmuX.set 1 0x00400244 }

theorem witness_StoredDataIsLoaded :
    (dataAccess sys .write 0xFFFFFFFC 8 = .ok 0xFFFFFFFC ∧ dataAccess sys .read 0xFFFFFFFC 8 = .ok 0xFFFFFFFC) ∧
    dataAccess unreadable .write 0x00401010 8 = .ok 0x00021010 ∧
    dataAccess unreadable .read 0x00401010 8 = .error (.raise .bus) := by decide
/-- Bits 0 and 31 are in register 0, bit 32 is not. -/
theorem witness_OverlordBitPlacement :
    (∃ t, ctrlWrite (.overlord 0) 0x80000001 sys = .ok t) ∧
    (0 : BitVec 8).toNat / 32 = 0 ∧ (31 : BitVec 8).toNat / 32 = 0 ∧ (32 : BitVec 8).toNat / 32 ≠ 0 :=
  ⟨⟨_, rfl⟩, by decide⟩

/-- A legal machine with the MMU on and memory listed, about to be reset. -/
theorem witness_ResetIsLegal : State.Legal mapped ∧ flagMmuenable mapped.flags = true := ⟨mapped_legal, by decide⟩
theorem user_legal : State.Legal (user.withFetchWord 32 0x11040000) := by
  constructor <;> first | exact fun _ => zero_fits | decide

theorem witness_StepKeepsLegal :
    State.Legal (user.withFetchWord 32 0x11040000) ∧ ∃ t, step (user.withFetchWord 32 0x11040000) = .next t :=
  ⟨user_legal, _, rfl⟩
theorem witness_UserModeStepsEnterExceptions :
    (∃ t, step (user.withFetchWord 32 0x11040000) = .next t) ∧
    flagSysmode (user.withFetchWord 32 0x11040000).flags = false ∧ NoUserAccess (user.withFetchWord 32 0x11040000) :=
  ⟨⟨_, rfl⟩, by decide⟩
/-- A step of each kind: one that leaves the flags, one that enters an exception, a return, a write
(`FlagsChangeOnlyByExchangeOrWrite`, `StepsLeaveMemoryAndParameters`). -/
theorem witness_FlagsChangeOnlyByExchangeOrWrite :
    (∃ t, step (loaded false) = .next t ∧ t.flags = (loaded false).flags) ∧
    (∃ t, step (user.withFetchWord 32 0x11040000) = .next t ∧ t.flags = 0xFF01) ∧
    (∃ t, step (sys.withFetchWord 32 0x03000000) = .next t ∧ t.flags = 0xFF01) ∧
    (∃ t, step ((State.reg sys 1 0xFF00).withFetchWord 32 0x12010002) = .next t ∧ t.flags = 0xFF00) :=
  ⟨⟨_, rfl, rfl⟩, ⟨_, rfl, rfl⟩, ⟨_, rfl, rfl⟩, ⟨_, rfl, rfl⟩⟩
/-- A tick and a fetched instruction that is no read of `CTRL_FLAGS`. -/
theorem witness_CriticalHasNoEffectInTheCore :
    fetchInstr (timerTick (user.withFetchWord 32 0x11040000)) = .ok (.ctrlrdCpuid 4) ∧
    (∀ rd, accessOf (.ctrlrdCpuid 4) ≠ some (rd, 2, .read)) ∧ ∃ u, storeData sys 0x100 4 7 = .ok u :=
  ⟨by decide, by simp [accessOf, instrFields, opCtrlrdForm, opModeswitch], _, rfl⟩
theorem witness_RegistersChangeOnlyByTheirAccess :
    ∃ t, exec (.ctrlwrMmuY7 1) (State.reg sys 1 5) = .next t ∧ t.mmuY[7] ≠ (State.reg sys 1 5).mmuY[7] :=
  ⟨_, rfl, by decide⟩

end Sys2Proof.Tests
end

section
/-! PROOFS. The MMU registers as storage (10_state.md R30): reading back what was written, and that a translation uses the enabled
slots and nothing else of them. -/

namespace Sys2Proof.Machine

/-! ## Registers written and read back -/

/-- `MMU_X[n]` keeps every bit written to it (10_state.md R30). -/
theorem ctrlWrite_mmuX_read (n : Fin 16) (v : Word) (s : State) :
    ∃ t, ctrlWrite (.mmuX n) v s = .ok t ∧ ctrlRead (.mmuX n) t = v :=
  ⟨{ s with mmuX := s.mmuX.set n v }, rfl, Vector.getElem_set_self n.isLt⟩

/-- `MMU_Y[n]` keeps every bit written to it (10_state.md R30). -/
theorem ctrlWrite_mmuY_read (n : Fin 16) (v : Word) (s : State) :
    ∃ t, ctrlWrite (.mmuY n) v s = .ok t ∧ ctrlRead (.mmuY n) t = v :=
  ⟨{ s with mmuY := s.mmuY.set n v }, rfl, Vector.getElem_set_self n.isLt⟩

/-! ## What a translation uses of the slots -/

/-- The states differ, as far as translations go, only in what slots disabled in both of them hold. -/
structure AgreeOnEnabledSlots (s t : State) : Prop where
  params : t.params = s.params
  flags : t.flags = s.flags
  slot : ∀ m : Fin 16, (slotEnabled s.mmuX[m] = false ∧ slotEnabled t.mmuX[m] = false) ∨
    (t.mmuX[m] = s.mmuX[m] ∧ t.mmuY[m] = s.mmuY[m])

/-- A slot that is not enabled takes part in no match (20_memory.md R61). -/
theorem slotApplies_of_disabled {x : Word} (h : slotEnabled x = false) (k : AccessKind) : slotApplies x k = false := by
  simp [slotApplies, h]

/-- A slot that takes part in a match is enabled (20_memory.md R61). -/
theorem slotEnabled_of_applies {x : Word} {k : AccessKind} (h : slotApplies x k = true) : slotEnabled x = true :=
  (Bool.and_eq_true_iff.1 h).1

/-- A search passes over a slot that does not apply (20_memory.md R62). -/
theorem lowestMatchIn_cons_of_not_applies {s : State} {k : AccessKind} {n : Fin 16} (h : slotApplies s.mmuX[n] k = false)
    (va : Word) (rest : List (Fin 16)) : lowestMatchIn s k va (n :: rest) = lowestMatchIn s k va rest := by
  rw [lowestMatchIn, if_neg (Bool.eq_false_iff.1 h)]

/-- The slot an access goes through is the one the search finds (20_memory.md R60). -/
theorem lowestMatch_of_accessSlot {s : State} {k : AccessKind} {va : Word} {size : Nat} {n : Fin 16}
    (h : accessSlot s k va size = .ok n) : lowestMatch s k va = .ok (some n) := by
  unfold accessSlot at h
  split at h
  · cases h
  · cases h
  · next m hm =>
    split at h
    · split at h
      · injection h with h; subst h; exact hm
      · cases h
    · cases h

namespace AgreeOnEnabledSlots

variable {s t : State}

/-- Writes to the registers of a slot that is and stays disabled change no enabled slot. -/
theorem of_set_disabled {n : Fin 16} {x : Word} (hn : slotEnabled s.mmuX[n] = false) (hx : slotEnabled x = false) (y : Word) :
    AgreeOnEnabledSlots s { s with mmuX := s.mmuX.set n x, mmuY := s.mmuY.set n y } where
  params := rfl
  flags := rfl
  slot m := by
    by_cases hm : n = m
    · subst hm
      exact .inl ⟨hn, by simpa using hx⟩
    · have hne : n.val ≠ m.val := fun e => hm (Fin.ext e)
      exact .inr ⟨Vector.getElem_set_ne n.isLt m.isLt hne, Vector.getElem_set_ne n.isLt m.isLt hne⟩

/-- Both registers of an enabled slot are the same. -/
theorem of_enabled (h : AgreeOnEnabledSlots s t) {m : Fin 16} (hm : slotEnabled s.mmuX[m] = true) :
    t.mmuX[m] = s.mmuX[m] ∧ t.mmuY[m] = s.mmuY[m] := by
  rcases h.slot m with ⟨hs, -⟩ | same
  · exact absurd (hs.symm.trans hm) Bool.false_ne_true
  · exact same

/-- The searches meet the same slots, since they pass over the disabled ones. -/
theorem lowestMatchIn_eq (h : AgreeOnEnabledSlots s t) (k : AccessKind) (va : Word) (slots : List (Fin 16)) :
    lowestMatchIn t k va slots = lowestMatchIn s k va slots := by
  induction slots with
  | nil => rfl
  | cons m rest ih =>
    rcases h.slot m with ⟨hs, ht⟩ | ⟨hx, hy⟩
    · rw [lowestMatchIn_cons_of_not_applies (slotApplies_of_disabled hs k),
        lowestMatchIn_cons_of_not_applies (slotApplies_of_disabled ht k), ih]
    · simp only [lowestMatchIn, hx, hy, ih]

theorem lowestMatch_eq (h : AgreeOnEnabledSlots s t) (k : AccessKind) (va : Word) :
    lowestMatch t k va = lowestMatch s k va := by
  rw [lowestMatch, h.params]
  exact h.lowestMatchIn_eq k va _

/-- The slot a search finds holds the same in both states, since it is enabled. -/
theorem found_eq (h : AgreeOnEnabledSlots s t) {k : AccessKind} {va : Word} {m : Fin 16}
    (hm : lowestMatch s k va = .ok (some m)) : t.mmuX[m] = s.mmuX[m] ∧ t.mmuY[m] = s.mmuY[m] := by
  obtain ⟨-, applies, -, -⟩ := lowestMatchIn_some hm
  exact h.of_enabled (slotEnabled_of_applies applies)

theorem permitted_eq (h : AgreeOnEnabledSlots s t) (x : Word) (k : AccessKind) : permitted t x k = permitted s x k := by
  simp only [permitted, h.flags]

theorem accessSlot_eq (h : AgreeOnEnabledSlots s t) (k : AccessKind) (va : Word) (size : Nat) :
    accessSlot t k va size = accessSlot s k va size := by
  unfold accessSlot
  rw [h.lowestMatch_eq]
  split
  · rfl
  · rfl
  · next m hm => rw [(h.found_eq hm).1, h.permitted_eq]

theorem physAddr_eq (h : AgreeOnEnabledSlots s t) {m : Fin 16} (hx : t.mmuX[m] = s.mmuX[m]) (hy : t.mmuY[m] = s.mmuY[m])
    (va : Word) : physAddr t m va = physAddr s m va := by
  simp only [physAddr, h.params, hx, hy]

/-- Translations use nothing of the disabled slots (10_state.md R30). -/
theorem translate_eq (h : AgreeOnEnabledSlots s t) (k : AccessKind) (va : Word) (size : Nat) :
    translate t k va size = translate s k va size := by
  unfold translate
  rw [h.flags, h.accessSlot_eq]
  split
  · split
    · rfl
    · next m hm =>
      obtain ⟨hx, hy⟩ := h.found_eq (lowestMatch_of_accessSlot hm)
      rw [h.physAddr_eq hx hy]
  · rfl

end AgreeOnEnabledSlots

/-- Settles O44: the registers are read back as written; with the MMU off by `translate_off`; and a write to a slot that is and
stays disabled leaves a state that agrees with the old one on the enabled slots. -/
theorem mmuRegistersArePlainStorage : Obligations.MmuRegistersArePlainStorage := by
  unfold Obligations.MmuRegistersArePlainStorage
  intro s n v
  refine ⟨ctrlWrite_mmuX_read n v s, ctrlWrite_mmuY_read n v s, ?off, ?disabled⟩
  case off => exact fun hoff x y k va size => translate_off (s := { s with mmuX := x, mmuY := y }) hoff k va size
  case disabled =>
    exact fun hn _ y hx k va size => (AgreeOnEnabledSlots.of_set_disabled hn hx y).translate_eq k va size

end Sys2Proof.Machine
end

section
/-! PROOFS. Taking an exception: the one entry point every kind goes to (60_exceptions.md R172), and the timer's own entry, which
lowers dingdong (R184). -/

namespace Sys2Proof.Machine

/-! ## A step with an asynchronous exception requested -/

/-- Once the handler is set, the requested exception is taken in place of the instruction at `pc` (60_exceptions.md R168 step 2);
that exceptions are on is part of the request (R166). -/
theorem step_of_asyncRequest {s : State} {k : ExcKind} (ha : asyncRequest (alarmNow s) (timerTick s) = some k)
    (hr : EntryReady s) : step s = .next (sampleInputs (enterException k (timerTick s))) := by
  have hx : flagExcnenable (timerTick s).flags = true := asyncRequest_enabled ha
  simp only [step, coreCycle, stepTicked, ha, raiseException_on hx (s := timerTick s) hr, thenSample]

/-- A step that goes on while an exception is requested has taken that exception: the other ways on need that none is. -/
theorem step_next_of_asyncRequest {s t : State} {k : ExcKind} (ha : asyncRequest (alarmNow s) (timerTick s) = some k)
    (h : step s = .next t) : t = sampleInputs (enterException k (timerTick s)) := by
  obtain ⟨u, rfl, ⟨k', hk, -, rfl⟩ | ⟨_, hnone, -⟩ | ⟨_, hnone, -⟩⟩ := step_next h
  · obtain rfl : k = k' := Option.some.inj (ha.symm.trans hk)
    rfl
  · exact nomatch ha.symm.trans hnone
  · exact nomatch ha.symm.trans hnone

/-! ## What the handler reads -/

/-- `CTRL_EXCN` reads as the number of the last exception (40_ctrl_access.md R106). -/
@[simp] theorem ctrlRead_excn (s : State) : ctrlRead .excn s = s.excn := rfl

/-- Bit 0 of `CTRL_TIMER0` reads as dingdong (10_state.md R22). -/
theorem ctrlRead_timer0_bit0 (s : State) : (ctrlRead .timer0 s).getLsbD 0 = s.timer0.dingdong :=
  BitVec.getLsbD_append.trans (by simp)

/-! ## The obligations -/

/-- Settles O10: both ways of taking an exception go through `enterException`; the tick before and the sample after it leave
`XADDR`, the parameters and what the entry wrote alone. -/
theorem oneExceptionEntryPoint : Obligations.OneExceptionEntryPoint := by
  unfold Obligations.OneExceptionEntryPoint
  rintro k s t (hraise | ⟨hrequest, hstep⟩)
  · obtain ⟨-, -, rfl⟩ := raiseException_next hraise
    simp
  · obtain rfl := step_next_of_asyncRequest hrequest hstep
    simp

/-- Settles O18: the step enters the timer's exception, and that entry lowers dingdong whatever the tick before it did. -/
theorem timerEntryClearsDingdong : Obligations.TimerEntryClearsDingdong := by
  unfold Obligations.TimerEntryClearsDingdong
  intro s hrequest hready
  have hlow : (sampleInputs (enterException .timer (timerTick s))).timer0.dingdong = false := by
    simp [dingdongAfterEntry]
  exact ⟨_, step_of_asyncRequest hrequest hready, hlow, (ctrlRead_timer0_bit0 _).trans hlow⟩

end Sys2Proof.Machine
end

section
/-! PROOFS. Words: an instruction and its word carry the same fields (log 1), and the two byte orders (20_memory.md R70). -/

namespace Sys2Proof.Machine

open Sys2Proof.Laws

/-! ## The numbers of the form rows -/

/-- Both tables of forms have the same numbers. -/
theorem writeForms_numbers : writeForms.map Prod.fst = readForms.map Prod.fst := rfl

/-- The numbers without a row of their own are the unassigned ones (40_ctrl_access.md R131). -/
theorem not_mem_formNumbers_iff (cn : Nat) : cn ∉ readForms.map Prod.fst ↔ CtrlUnassigned cn := by
  by_cases h : cn < 0x38
  · have small : ∀ k : Fin 0x38, k.val ∉ readForms.map Prod.fst ↔ CtrlUnassigned k.val := by decide
    exact small ⟨cn, h⟩
  · have bound : ∀ k ∈ readForms.map Prod.fst, k < 0x38 := by decide
    exact ⟨fun _ => by omega, fun _ hm => h (bound cn hm)⟩

/-- A table of forms has a row for exactly its numbers. -/
theorem lookup_eq_none_iff_not_mem {forms : List (Nat × (Nat → Instr))} {cn : Nat} :
    forms.lookup cn = none ↔ cn ∉ forms.map Prod.fst := by
  simp only [List.lookup_eq_none_iff, bne_iff_ne, List.mem_map, not_exists, not_and]
  exact ⟨fun h p hp e => h p hp e.symm, fun h p hp e => h p hp e.symm⟩

theorem readForms_lookup_none_iff {cn : Nat} : readForms.lookup cn = none ↔ CtrlUnassigned cn :=
  lookup_eq_none_iff_not_mem.trans (not_mem_formNumbers_iff cn)

theorem writeForms_lookup_none_iff {cn : Nat} : writeForms.lookup cn = none ↔ CtrlUnassigned cn := by
  rw [lookup_eq_none_iff_not_mem, writeForms_numbers, not_mem_formNumbers_iff]

/-- A row found under a number is one of the table, with that number. -/
theorem mem_of_lookup {forms : List (Nat × (Nat → Instr))} {cn : Nat} {form : Nat → Instr}
    (h : forms.lookup cn = some form) : (cn, form) ∈ forms := by
  obtain ⟨before, after, rfl, -⟩ := List.lookup_eq_some_iff.1 h
  simp

/-- A form's row has the fields it was found by, and is well-formed for every register a word can name. -/
theorem readForms_fields {cn : Nat} {form : Nat → Instr} (h : (cn, form) ∈ readForms) (r : Nat) :
    instrFields (form r) = ⟨opCtrlrdForm, r, cn⟩ ∧ (RegField r → (form r).WellFormed) := by
  have all : ∀ p ∈ readForms, instrFields (p.2 r) = ⟨opCtrlrdForm, r, p.1⟩ ∧ (RegField r → (p.2 r).WellFormed) := by
    iterate 36 refine List.forall_mem_cons.2 ⟨⟨rfl, id⟩, ?_⟩
    exact List.forall_mem_nil _
  exact all _ h

theorem writeForms_fields {cn : Nat} {form : Nat → Instr} (h : (cn, form) ∈ writeForms) (r : Nat) :
    instrFields (form r) = ⟨opCtrlwrForm, r, cn⟩ ∧ (RegField r → (form r).WellFormed) := by
  have all : ∀ p ∈ writeForms, instrFields (p.2 r) = ⟨opCtrlwrForm, r, p.1⟩ ∧ (RegField r → (p.2 r).WellFormed) := by
    iterate 36 refine List.forall_mem_cons.2 ⟨⟨rfl, id⟩, ?_⟩
    exact List.forall_mem_nil _
  exact all _ h

/-! ## Instructions and fields -/

/-- A well-formed instruction's word carries its fields: by the family `OperandsFit`, whose rows of one register all go the same
way. -/
theorem wordFields_encode {i : Instr} (h : i.WellFormed) : wordFields (encode i) = instrFields i := by
  cases i
  case ctrlrd rd cn => exact OperandsFit.ctrlrd rd cn h
  case ctrlwr cn rs => exact OperandsFit.ctrlwr cn rs h
  case modeswitch => exact OperandsFit.modeswitch h
  case ctrlrdUnassigned rd cn => exact OperandsFit.ctrlrdUnassigned rd cn h
  case ctrlwrUnassigned cn rs => exact OperandsFit.ctrlwrUnassigned cn rs h
  all_goals exact OperandsFit.of_fields (lt_of_blt rfl) h (lt_of_blt rfl)

/-- The fields of a well-formed instruction decode to it. -/
theorem decodeFields_instrFields {i : Instr} (h : i.WellFormed) : decodeFields (instrFields i) = .ok i := by
  cases i
  case ctrlrdUnassigned rd cn =>
    obtain ⟨-, -, hcn⟩ := h
    simp [decodeFields, instrFields, opCtrlrd, opCtrlwr, opModeswitch, opCtrlrdForm, readForms_lookup_none_iff.2 hcn]
  case ctrlwrUnassigned cn rs =>
    obtain ⟨-, -, hcn⟩ := h
    simp [decodeFields, instrFields, opCtrlrd, opCtrlwr, opModeswitch, opCtrlrdForm, opCtrlwrForm,
      writeForms_lookup_none_iff.2 hcn]
  all_goals rfl

/-- Fields that decode are those of the instruction they decode to, which is well-formed if they are in their ranges. -/
theorem instrFields_of_decodeFields {f : Fields} {i : Instr} (hd : decodeFields f = .ok i) :
    instrFields i = f ∧ (RegField f.reg → CnField f.cn → i.WellFormed) := by
  obtain ⟨opcode, reg, cn⟩ := f
  unfold decodeFields at hd
  split at hd
  case isTrue h => cases h; cases hd; exact ⟨rfl, And.intro⟩
  split at hd
  case isTrue h => cases h; cases hd; exact ⟨rfl, And.intro⟩
  split at hd
  case isTrue h =>
    split at hd
    case isTrue h0 => cases h; obtain ⟨rfl, rfl⟩ := h0; cases hd; exact ⟨rfl, fun _ _ => trivial⟩
    case isFalse => cases hd
  split at hd
  case isTrue h =>
    cases h
    split at hd
    case h_1 form hform =>
      cases hd
      obtain ⟨hf, hwf⟩ := readForms_fields (mem_of_lookup hform) reg
      exact ⟨hf, fun hr _ => hwf hr⟩
    case h_2 hnone => cases hd; exact ⟨rfl, fun hr hc => ⟨hr, hc, readForms_lookup_none_iff.1 hnone⟩⟩
  split at hd
  case isTrue h =>
    cases h
    split at hd
    case h_1 form hform =>
      cases hd
      obtain ⟨hf, hwf⟩ := writeForms_fields (mem_of_lookup hform) reg
      exact ⟨hf, fun hr _ => hwf hr⟩
    case h_2 hnone => cases hd; exact ⟨rfl, fun hr hc => ⟨hr, hc, writeForms_lookup_none_iff.1 hnone⟩⟩
  cases hd

/-- The fields of a word make the word. -/
theorem fieldsWord_wordFields (w : BitVec 32) : fieldsWord (wordFields w) = w := by
  apply BitVec.eq_of_toNat_eq
  simp only [fieldsWord, wordFields, toNat_fields, BitVec.toNat_ofNat, BitVec.extractLsb'_toNat,
    Nat.shiftRight_eq_div_pow]
  have := w.isLt
  omega

/-! ## The obligations -/

/-- Settles O1: the stored bytes make the word again in either order, the word carries the instruction's fields, and these
decode to the instruction. -/
theorem decodeOfEncodedInstruction : Obligations.DecodeOfEncodedInstruction := by
  unfold Obligations.DecodeOfEncodedInstruction
  intro o i h
  have stored : decodeBytes o (encodeBytes o i) = decodeWord (encode i) := by
    cases o <;> exact congrArg decodeWord (append_extracts (encode i))
  rw [stored, decodeWord, wordFields_encode h, decodeFields_instrFields h]

/-- Settles O2: the instruction's fields are the word's, and no bit of a word lies outside its fields. -/
theorem decodedWordsReencode : Obligations.DecodedWordsReencode := by
  unfold Obligations.DecodedWordsReencode
  intro w i h
  obtain ⟨hf, hwf⟩ := instrFields_of_decodeFields h
  refine ⟨hwf (BitVec.isLt _) (BitVec.isLt _), ?_⟩
  rw [encode, hf, fieldsWord_wordFields]

/-- Settles O3: by evaluating the decoder on the six words. -/
theorem sampleWordsDecode : Obligations.SampleWordsDecode := by
  unfold Obligations.SampleWordsDecode
  decide

/-- Settles O4: by the byte order and the bit; where they oppose, the reversed word has its four bytes in reverse. -/
theorem instrendswapReversesTheBytes : Obligations.InstrendswapReversesTheBytes := by
  unfold Obligations.InstrendswapReversesTheBytes
  intro s b0 b1 b2 b3
  unfold seenWord
  cases s.params.instrBaseOrder <;> cases flagInstrendswap s.flags <;>
    simp [assembleWord, byteReverse_append]

end Sys2Proof.Machine
end

section
/-! PROOFS. Legal states: reset gives one, and every part of a step keeps it (10_state.md R11, R17; 20_memory.md R50). -/

namespace Sys2Proof.Machine

/-! ## Values of XLEN bits -/

theorem fitsXlen_zero (p : Params) : FitsXlen p 0 :=
  Nat.two_pow_pos _

/-- Every value of at most 32 bits is one of XLEN bits. -/
theorem fitsXlen_of_lt {p : Params} {v : Word} (h : v.toNat < 2 ^ 32) : FitsXlen p v :=
  lt_of_lt_of_le h (Nat.pow_le_pow_right (by decide) (by cases p.xlen <;> decide))

/-- The low bits of a value fit their number. -/
theorem lowBits_lt {n : Nat} (h : n ≤ 64) (v : Word) : (lowBits n v).toNat < 2 ^ n := by
  rw [lowBits_toNat n v h]
  exact Nat.mod_lt _ (Nat.two_pow_pos n)

/-- The low bits of a value that there are registers for make a value of XLEN bits. -/
theorem lowBits_fits {p : Params} {n : Nat} (h : n ≤ p.xlen.bits) (v : Word) : FitsXlen p (lowBits n v) :=
  lt_of_lt_of_le (lowBits_lt (h.trans (xlen_bits_le p)) v) (Nat.pow_le_pow_right (by decide) h)

/-- TIMER0's read view is no wider than its count: dingdong takes the place of the lowest count bit. -/
theorem timer0ReadView_fits {p : Params} {t : Timer0} (h : FitsXlen p t.count) : FitsXlen p (timer0ReadView t) := by
  have hb : t.dingdong.toNat < 2 := Bool.toNat_lt _
  have hview := timer0ReadView_toNat t
  rw [FitsXlen] at h ⊢
  cases hx : p.xlen <;> simp only [hx, Xlen.bits] at h ⊢ <;> omega

/-- Replacing one register of a bank by an XLEN-bit value. -/
theorem allFit_set {n : Nat} {p : Params} {v : Vector Word n} (h : AllFit p v) (k : Fin n) {x : Word} (hx : FitsXlen p x) :
    AllFit p (v.set k x) := by
  intro r hr
  rw [Vector.getElem_set]
  split
  · exact hx
  · exact h r hr

namespace State.Legal

variable {s t : State}

/-- What is read from a general register, there or not, is an XLEN-bit value. -/
theorem readReg_fits (h : s.Legal) (r : Nat) : FitsXlen s.params (readReg s r) := by
  unfold readReg
  cases hr : s.regs[r]? with
  | none => exact fitsXlen_zero _
  | some v => exact h.regs v (List.mem_of_getElem? hr)

/-- Every read view is an XLEN-bit value. -/
theorem ctrlRead_fits (h : s.Legal) (reg : CtrlReg) : FitsXlen s.params (ctrlRead reg s) := by
  obtain ⟨-, -, -, ⟨-, hgpioa⟩, -, hproc⟩ := h.params
  cases reg
  case cpuid => exact toXlen_fits _ _
  case excn => exact h.excn
  case flags => exact h.flags
  case mirrorflags => exact h.mirrorflags
  case xaddr => exact h.xaddr
  case mirrorxaddr => exact h.mirrorxaddr
  case timer0 => exact timer0ReadView_fits h.count
  case system0 => exact h.system0
  case system1 => exact h.system1
  case gpioaPins => exact lowBits_fits hgpioa _
  case processors => exact lowBits_fits hproc _
  case mmuX n => exact h.mmuX n n.isLt
  case mmuY n => exact h.mmuY n n.isLt
  case overlord n =>
    refine fitsXlen_of_lt ?_
    simp only [ctrlRead, BitVec.toNat_setWidth]
    exact lt_of_le_of_lt (Nat.mod_le _ _) (BitVec.isLt _)

/-! ## The parts of a step -/

theorem timerTick (h : s.Legal) : (timerTick s).Legal :=
  { h with
    count := by
      simp only [timerTick_timer0, timerTick_params]
      split
      · exact fitsXlen_zero _
      · exact toXlen_fits _ _ }

theorem sampleInputs (h : s.Legal) : (sampleInputs s).Legal :=
  { h with }

theorem enterException (h : s.Legal) (k : ExcKind) : (enterException k s).Legal :=
  { h with
    excn := toXlen_fits _ _
    mirrorxaddr := h.pc
    flags := h.mirrorflags
    flagsReserved := h.mirrorflagsReserved
    mirrorflags := h.flags
    mirrorflagsReserved := h.flagsReserved
    pc := h.xaddr }

theorem returnFromException (h : s.Legal) : (returnFromException s).Legal :=
  { h with
    flags := h.mirrorflags
    flagsReserved := h.mirrorflagsReserved
    mirrorflags := h.flags
    mirrorflagsReserved := h.flagsReserved
    pc := h.mirrorxaddr }

theorem advancePc (h : s.Legal) : (advancePc s).Legal :=
  { h with pc := toXlen_fits _ _ }

theorem afterRead (h : s.Legal) (rd : Nat) {v : Word} (hv : FitsXlen s.params v) : State.Legal (afterRead s rd v) :=
  { h with
    regsCount := List.length_set.trans h.regsCount
    regs := fun w hw => (List.mem_or_eq_of_mem_set hw).elim (h.regs w) (· ▸ hv)
    pc := toXlen_fits _ _ }

/-- A write that is not refused stores an XLEN-bit value in a legal way: the flags registers only without reserved bits, the pin
latches only to the width of the pins there are. -/
theorem ctrlWrite (h : s.Legal) {reg : CtrlReg} {v : Word} (hv : FitsXlen s.params v) (hw : ctrlWrite reg v s = .ok t) :
    t.Legal := by
  obtain ⟨-, -, -, ⟨-, hgpioa⟩, -, hproc⟩ := h.params
  have ht := ctrlWrite_ok hw
  cases reg <;> simp only at ht
  case flags => obtain ⟨hclear, rfl⟩ := ht; exact { h with flags := hv, flagsReserved := hclear }
  case mirrorflags => obtain ⟨hclear, rfl⟩ := ht; exact { h with mirrorflags := hv, mirrorflagsReserved := hclear }
  case xaddr => subst ht; exact { h with xaddr := hv }
  case mirrorxaddr => subst ht; exact { h with mirrorxaddr := hv }
  case timer0 =>
    obtain ⟨-, rfl⟩ := ht
    refine { h with count := ?_ }
    simp only [timer0Write]
    split
    · exact fitsXlen_zero _
    · exact h.count
  case system0 => subst ht; exact { h with system0 := hv }
  case system1 => subst ht; exact { h with system1 := hv }
  case gpioaPins => subst ht; exact { h with gpioaOut := lowBits_lt (hgpioa.trans (xlen_bits_le _)) v }
  case processors => subst ht; exact { h with procOut := lowBits_lt (hproc.trans (xlen_bits_le _)) v }
  case mmuX n => subst ht; exact { h with mmuX := allFit_set h.mmuX n hv }
  case mmuY n => subst ht; exact { h with mmuY := allFit_set h.mmuY n hv }
  case overlord n => subst ht; exact { h with }

/-- Every instruction that goes on keeps a state legal. -/
theorem exec (h : s.Legal) {i : Instr} (hi : exec i s = .next t) : t.Legal := by
  rcases exec_next hi with ⟨k, -, -, -, rfl⟩ | ⟨-, -, -, rfl⟩ | ⟨rd, cn, reg, -, -, -, rfl⟩ | ⟨rs, cn, reg, u, -, -, -, hu, rfl⟩
  · exact h.enterException k
  · exact h.returnFromException
  · exact h.afterRead rd (h.ctrlRead_fits reg)
  · exact (h.ctrlWrite (h.readReg_fits rs) hu).advancePc

/-- The reset event keeps a machine legal. -/
theorem applyReset (h : s.Legal) : s.applyReset.Legal :=
  { h with
    flags := fitsXlen_of_lt (show resetFlags.toNat < 2 ^ 32 by decide)
    flagsReserved := show flagsReservedClear resetFlags = true by decide
    gpioaOut := Nat.two_pow_pos _
    pc := h.params.2.1 }

end State.Legal

/-- The blank machine is legal. -/
theorem blank_legal : State.blank.Legal where
  params := by decide
  regsCount := by decide
  regs v hv := by rw [List.eq_of_mem_replicate hv]; exact fitsXlen_zero _
  pc := fitsXlen_zero _
  excn := fitsXlen_zero _
  flags := fitsXlen_zero _
  flagsReserved := by decide
  mirrorflags := fitsXlen_zero _
  mirrorflagsReserved := by decide
  xaddr := fitsXlen_zero _
  mirrorxaddr := fitsXlen_zero _
  count := fitsXlen_zero _
  system0 := fitsXlen_zero _
  system1 := fitsXlen_zero _
  gpioaOut := Nat.two_pow_pos _
  procOut := Nat.two_pow_pos _
  mmuX := by decide
  mmuY := by decide
  memForm := List.Pairwise.nil
  memSpace _ hc := nomatch hc

/-! ## The obligations -/

/-- Settles O54: the machine after reset is the reset event over the blank machine, and that event keeps a machine legal. -/
theorem resetIsLegal : Obligations.ResetIsLegal := by
  unfold Obligations.ResetIsLegal
  exact ⟨blank_legal.applyReset, fun _ h => h.applyReset⟩

/-- Settles O55: the tick, an exception entry, every instruction and the environment's next sample keep a state legal. -/
theorem stepKeepsLegal : Obligations.StepKeepsLegal := by
  unfold Obligations.StepKeepsLegal
  intro s t h hstep
  obtain ⟨u, rfl, ⟨k, -, -, rfl⟩ | ⟨k, -, -, -, -, rfl⟩ | ⟨i, -, -, hi⟩⟩ := step_next hstep
  · exact (h.timerTick.enterException k).sampleInputs
  · exact (h.timerTick.enterException k).sampleInputs
  · exact (h.timerTick.exec hi).sampleInputs

end Sys2Proof.Machine
end

section
/-! PROOFS. Control-register accesses: which number is which register (10_state.md R10), what an access that fails its checks does
(40_ctrl_access.md R102, 60_exceptions.md R155), and what each read and each write does (R104 to R131). A form names the same access as
the operation on its number, so the statements about the operations `CTRLRD` and `CTRLWR` come first and give those about the forms. -/

namespace Sys2Proof.Machine

/-! ## Numbers -/

/-- The implementation has this register: all have every register but those of slots past `MMU_SLOTS` (20_memory.md R69; log 29). -/
def CtrlReg.Present (p : Params) : CtrlReg → Prop
  | .mmuX n | .mmuY n => n.val < p.mmuSlots
  | _ => True

/-- A number has the register whose number it is, if that register is there. -/
theorem ctrlRegOf_eq_some_iff {p : Params} {cn : Nat} {reg : CtrlReg} :
    ctrlRegOf p cn = some reg ↔ cn = ctrlRegNumber reg ∧ reg.Present p := by
  constructor
  · intro h
    refine ⟨ctrlRegOf_number h, ?_⟩
    unfold ctrlRegOf at h
    iterate 11
      rcases ite_some h with ⟨-, rfl⟩ | h
      · trivial
    iterate 2
      rcases dite_some h with ⟨hc, rfl⟩ | h
      · simp only [CtrlReg.Present]; omega
    rcases dite_some h with ⟨-, rfl⟩ | h
    · trivial
    · cases h
  · rintro ⟨rfl, hp⟩
    cases reg
    case mmuX n =>
      have hslot : n.val < p.mmuSlots := hp
      show ctrlRegOf p (0x10 + n.val) = _
      unfold ctrlRegOf
      iterate 11 rw [if_neg (by omega)]
      rw [dif_pos (by omega)]
      simp
    case mmuY n =>
      have hslot : n.val < p.mmuSlots := hp
      show ctrlRegOf p (0x20 + n.val) = _
      unfold ctrlRegOf
      iterate 11 rw [if_neg (by omega)]
      rw [dif_neg (by omega), dif_pos (by omega)]
      simp
    case overlord n =>
      show ctrlRegOf p (0x30 + n.val) = _
      unfold ctrlRegOf
      iterate 11 rw [if_neg (by omega)]
      rw [dif_neg (by omega), dif_neg (by omega), dif_pos (by omega)]
      simp
    all_goals rfl

theorem ctrlRegOf_mmuX {p : Params} {n : Fin 16} (h : n.val < p.mmuSlots) : ctrlRegOf p (0x10 + n.val) = some (.mmuX n) :=
  ctrlRegOf_eq_some_iff.2 ⟨rfl, h⟩

theorem ctrlRegOf_mmuY {p : Params} {n : Fin 16} (h : n.val < p.mmuSlots) : ctrlRegOf p (0x20 + n.val) = some (.mmuY n) :=
  ctrlRegOf_eq_some_iff.2 ⟨rfl, h⟩

/-- With at most eight slots the unassigned numbers have no register (40_ctrl_access.md R131; log 29). -/
theorem ctrlRegOf_unassigned {p : Params} {cn : Nat} (h : CtrlUnassigned cn) (hs : p.mmuSlots ≤ 8) : ctrlRegOf p cn = none := by
  refine Option.eq_none_iff_forall_ne_some.2 fun reg hreg => ?_
  obtain ⟨rfl, hp⟩ := ctrlRegOf_eq_some_iff.1 hreg
  cases reg <;> simp only [ctrlRegNumber, CtrlReg.Present] at h hp <;> omega

/-- Settles O30: a register's number is its own, and only the registers of missing slots are not there. -/
theorem controlRegisterNumbers : Obligations.ControlRegisterNumbers := by
  unfold Obligations.ControlRegisterNumbers
  intro p cn reg
  rw [ctrlRegOf_eq_some_iff]
  cases reg <;> simp [ctrlRegNumber, CtrlReg.Present, and_comm]

/-! ## Accesses -/

theorem exec_eq_readCtrl {i : Instr} {rd cn : Nat} (h : accessOf i = some (rd, cn, .read)) (s : State) :
    exec i s = readCtrl rd cn s := by
  rw [exec_eq_access, h]

theorem exec_eq_writeCtrl {i : Instr} {rs cn : Nat} (h : accessOf i = some (rs, cn, .write)) (s : State) :
    exec i s = writeCtrl cn rs s := by
  rw [exec_eq_access, h]

/-- An access whose checks fail ends as the failed check says, whatever its direction. -/
theorem exec_of_preChecks_error {i : Instr} {r cn : Nat} {dir : Dir} {s : State} {e : Stop}
    (ha : accessOf i = some (r, cn, dir)) (h : preChecks r cn dir s = .error e) : exec i s = stopOutcome e s := by
  cases dir
  case read => rw [exec_eq_readCtrl ha, readCtrl, h]
  case write => rw [exec_eq_writeCtrl ha, writeCtrl, h]

theorem preChecks_not_allowed {r cn : Nat} {dir : Dir} {s : State} (h : ctrlAllowed s cn dir = false) :
    preChecks r cn dir s = .error (.raise .priv) := by
  simp [preChecks, h]

theorem preChecks_not_accessible {r cn : Nat} {dir : Dir} {s : State} (ha : ctrlAllowed s cn dir = true)
    (hr : regAccessible s r = false) : preChecks r cn dir s = .error (.raise .regprot) := by
  simp [preChecks, ha, hr]

theorem preChecks_no_register {r cn : Nat} {dir : Dir} {s : State} (ha : ctrlAllowed s cn dir = true)
    (hr : regAccessible s r = true) (hn : ctrlRegOf s.params cn = none) :
    preChecks r cn dir s = .error (.refuse (.unassignedControlRegister cn)) := by
  simp [preChecks, ha, hr, hn]

theorem returnReady_iff {s : State} : ReturnReady s ↔ s.written.mirrorflags = true ∧ s.written.mirrorxaddr = true :=
  Bool.and_eq_true_iff

/-- In system mode `MODESWITCH` returns, once it has somewhere to go (41_mode_switch.md R140, R146). -/
theorem exec_modeswitch {s : State} (hs : flagSysmode s.flags = true) (hr : ReturnReady s) :
    exec .modeswitch s = .next (returnFromException s) := by
  simp only [exec, execModeswitch, hs, if_pos, hr]

/-- In user mode an instruction that `USER_CTRL_SAFE` does not open raises the privilege exception, `MODESWITCH` among them. -/
theorem exec_user {i : Instr} {s : State} (hs : flagSysmode s.flags = false)
    (hsafe : ∀ r cn dir, accessOf i = some (r, cn, dir) → (cn, dir) ∉ s.params.userCtrlSafe) :
    exec i s = raiseException .priv s := by
  cases ha : accessOf i with
  | none =>
    obtain rfl := accessOf_none ha
    exact if_neg (Bool.eq_false_iff.1 hs)
  | some a =>
    obtain ⟨r, cn, dir⟩ := a
    have denied : ctrlAllowed s cn dir = false := by simp [ctrlAllowed, hs, hsafe r cn dir ha]
    exact exec_of_preChecks_error ha (preChecks_not_allowed denied)

/-- Settles O11: such an instruction raises the privilege exception, and raising one has the three outcomes. -/
theorem userModeInstructionsTrap : Obligations.UserModeInstructionsTrap := by
  unfold Obligations.UserModeInstructionsTrap
  intro i s hs hsafe
  rw [exec_user hs hsafe]
  exact ⟨raiseException_on, raiseException_unset, raiseException_off⟩

/-- Settles O12: the register is not accessible, so the second check raises; an exception entry changes no general register. -/
theorem protectedRegisterTraps : Obligations.ProtectedRegisterTraps := by
  unfold Obligations.ProtectedRegisterTraps
  intro i s r cn dir ha hallowed hr
  have hacc : regAccessible s r = false := by
    simp only [regAccessible, Bool.and_eq_false_iff, decide_eq_false_iff_not, not_le, not_lt]
    exact hr
  have traps : exec i s = raiseException .regprot s := exec_of_preChecks_error ha (preChecks_not_accessible hallowed hacc)
  rw [traps]
  exact ⟨fun hx he => ⟨_, raiseException_on hx he, rfl, rfl⟩, raiseException_unset, raiseException_off⟩

/-- Settles O41: the third check refuses a number without a register; number 7 has none, nor have the unassigned numbers where there
are at most eight slots. -/
theorem unassignedNumbersAreRefused : Obligations.UnassignedNumbersAreRefused := by
  unfold Obligations.UnassignedNumbersAreRefused
  have refused : ∀ (i : Instr) (s : State) (r cn : Nat) (dir : Dir), accessOf i = some (r, cn, dir) →
      ctrlAllowed s cn dir = true → regAccessible s r = true → ctrlRegOf s.params cn = none →
      exec i s = .refused (.unassignedControlRegister cn) :=
    fun i s r cn dir ha hallowed hr hn => exec_of_preChecks_error ha (preChecks_no_register hallowed hr hn)
  refine ⟨refused, fun s r cn => ⟨fun h => ?_, fun h => ?_, fun hu hs h => ?_, fun hu hs h => ?_⟩⟩
  · exact ⟨refused _ s r 7 .read rfl h.1 h.2 rfl, refused _ s r 7 .read rfl h.1 h.2 rfl⟩
  · exact ⟨refused _ s r 7 .write rfl h.1 h.2 rfl, refused _ s r 7 .write rfl h.1 h.2 rfl⟩
  · have hn := ctrlRegOf_unassigned hu hs
    exact ⟨refused _ s r cn .read rfl h.1 h.2 hn, refused _ s r cn .read rfl h.1 h.2 hn⟩
  · have hn := ctrlRegOf_unassigned hu hs
    exact ⟨refused _ s r cn .write rfl h.1 h.2 hn, refused _ s r cn .write rfl h.1 h.2 hn⟩

end Sys2Proof.Machine
end

section
/-! PROOFS. What each read of a control register gives (40_ctrl_access.md R104 to R129). -/

namespace Sys2Proof.Machine

/-! ## Any number -/

/-- An instruction that reads a register that is there, past its checks. -/
theorem exec_read {i : Instr} {s : State} {rd cn : Nat} {reg : CtrlReg} (ha : accessOf i = some (rd, cn, .read))
    (h : ReadPasses s rd cn) (hr : ctrlRegOf s.params cn = some reg) :
    exec i s = .next (afterRead s rd (ctrlRead reg s)) :=
  (exec_eq_readCtrl ha s).trans (readCtrl_ok h hr)

/-- Settles O29: past its checks the read completes, and the destination is a register the machine has. -/
theorem numberedReadCompletes : Obligations.NumberedReadCompletes := by
  unfold Obligations.NumberedReadCompletes
  intro s rd cn reg h hr
  refine ⟨exec_read rfl h hr, fun hlen => ?_, fun r hne => ?_⟩
  · have hlt : rd < s.regs.length := hlen ▸ regAccessible_lt h.2
    exact (readReg_writeReg rd (ctrlRead reg s) hlt).trans (if_pos rfl)
  · simp [readReg, List.getElem?_set_ne hne.symm]

/-! ## Registers read as they are -/

/-- Settles O22: the register is read as it is, and every entry goes to it. -/
theorem readOfExceptionAddress : Obligations.ReadOfExceptionAddress := by
  unfold Obligations.ReadOfExceptionAddress
  exact fun s rd h => ⟨exec_read rfl h rfl, fun k => enterException_pc k s⟩

/-- Settles O23: each register is read as it is. -/
theorem readOfStoredRegisters : Obligations.ReadOfStoredRegisters := by
  unfold Obligations.ReadOfStoredRegisters
  exact ⟨fun s rd h => exec_read rfl h rfl, fun s rd h => exec_read rfl h rfl, fun s rd h => exec_read rfl h rfl,
    fun s rd h => exec_read rfl h rfl, fun s rd h => exec_read rfl h rfl, fun s rd h => exec_read rfl h rfl⟩

/-- A read of `MMU_X[n]` of a slot there is. -/
theorem exec_read_mmuX {i : Instr} {s : State} {rd : Nat} (n : Fin 16) (ha : accessOf i = some (rd, 0x10 + n.val, .read))
    (hn : n.val < s.params.mmuSlots) (h : ReadPasses s rd (0x10 + n.val)) : exec i s = .next (afterRead s rd s.mmuX[n]) :=
  exec_read ha h (ctrlRegOf_mmuX hn)

/-- A read of `MMU_Y[n]` of a slot there is. -/
theorem exec_read_mmuY {i : Instr} {s : State} {rd : Nat} (n : Fin 16) (ha : accessOf i = some (rd, 0x20 + n.val, .read))
    (hn : n.val < s.params.mmuSlots) (h : ReadPasses s rd (0x20 + n.val)) : exec i s = .next (afterRead s rd s.mmuY[n]) :=
  exec_read ha h (ctrlRegOf_mmuY hn)

/-- Settles O27: each of the sixteen rows reads its own slot's register as it is. -/
theorem readOfMmuRegisters : Obligations.ReadOfMmuRegisters := by
  unfold Obligations.ReadOfMmuRegisters
  exact ⟨
    fun _ _ hn h => exec_read_mmuX 0 rfl hn h, fun _ _ hn h => exec_read_mmuX 1 rfl hn h,
    fun _ _ hn h => exec_read_mmuX 2 rfl hn h, fun _ _ hn h => exec_read_mmuX 3 rfl hn h,
    fun _ _ hn h => exec_read_mmuX 4 rfl hn h, fun _ _ hn h => exec_read_mmuX 5 rfl hn h,
    fun _ _ hn h => exec_read_mmuX 6 rfl hn h, fun _ _ hn h => exec_read_mmuX 7 rfl hn h,
    fun _ _ hn h => exec_read_mmuY 0 rfl hn h, fun _ _ hn h => exec_read_mmuY 1 rfl hn h,
    fun _ _ hn h => exec_read_mmuY 2 rfl hn h, fun _ _ hn h => exec_read_mmuY 3 rfl hn h,
    fun _ _ hn h => exec_read_mmuY 4 rfl hn h, fun _ _ hn h => exec_read_mmuY 5 rfl hn h,
    fun _ _ hn h => exec_read_mmuY 6 rfl hn h, fun _ _ hn h => exec_read_mmuY 7 rfl hn h⟩

/-! ## Registers with a read view -/

/-- Zero-extending 32 bits puts 32 zeros above them. -/
theorem setWidth_eq_zero_append (v : BitVec 32) : v.setWidth 64 = (0#32 ++ v : BitVec 64) := by
  apply BitVec.eq_of_toNat_eq
  have h : (0#32 ++ v : BitVec 64).toNat = (0#32).toNat <<< 32 ||| v.toNat := BitVec.toNat_append _ _
  have := v.isLt
  rw [h, ← Nat.shiftLeft_add_eq_or_of_lt v.isLt, BitVec.toNat_setWidth]
  simp only [BitVec.toNat_ofNat, Nat.shiftLeft_eq]
  omega

/-- A read of an overlord register. -/
theorem exec_read_overlord {i : Instr} {s : State} {rd cn : Nat} (n : Fin 8) (ha : accessOf i = some (rd, cn, .read))
    (hr : ctrlRegOf s.params cn = some (.overlord n)) (h : ReadPasses s rd cn) :
    exec i s = .next (afterRead s rd (0#32 ++ s.overlord[n])) := by
  rw [exec_read ha h hr, ctrlRead, setWidth_eq_zero_append]

/-- Settles O28: each of the eight rows reads its own register, zero-extended. -/
theorem readOfOverlordRegisters : Obligations.ReadOfOverlordRegisters := by
  unfold Obligations.ReadOfOverlordRegisters
  exact ⟨
    fun _ _ h => exec_read_overlord 0 rfl rfl h, fun _ _ h => exec_read_overlord 1 rfl rfl h,
    fun _ _ h => exec_read_overlord 2 rfl rfl h, fun _ _ h => exec_read_overlord 3 rfl rfl h,
    fun _ _ h => exec_read_overlord 4 rfl rfl h, fun _ _ h => exec_read_overlord 5 rfl rfl h,
    fun _ _ h => exec_read_overlord 6 rfl rfl h, fun _ _ h => exec_read_overlord 7 rfl rfl h⟩

/-- A part with 32-bit registers reads the low half of `CTRL_CPUID` (10_state.md R12, D4). -/
theorem cpuidValue_x32 {p : Params} (h : p.xlen = .x32) :
    cpuidValue p =
      0#32 ++ p.cpuidByte3 ++ BitVec.ofNat 8 (p.mmuSlots - 1) ++ 0x01#8 ++ BitVec.ofNat 8 (p.numGpr - 1) := by
  apply BitVec.eq_of_toNat_eq
  rw [cpuidValue, toXlen_toNat, toNat_cpuid, toNat_cpuid, h]
  have := p.cpuidByte3.isLt
  have := (BitVec.ofNat 8 (p.mmuSlots - 1)).isLt
  have := (BitVec.ofNat 8 (p.numGpr - 1)).isLt
  simp only [Xlen.bits, show (0#32).toNat = 0 from rfl]
  omega

/-- A part with 64-bit registers reads all of it. -/
theorem cpuidValue_x64 {p : Params} (h : p.xlen = .x64) :
    cpuidValue p =
      p.signature ++ p.cpuidByte3 ++ BitVec.ofNat 8 (p.mmuSlots - 1) ++ 0x01#8 ++ BitVec.ofNat 8 (p.numGpr - 1) := by
  apply toXlen_of_fits
  rw [FitsXlen, h]
  exact BitVec.isLt _

/-- Settles O24: by the register width. -/
theorem readOfCpuid : Obligations.ReadOfCpuid := by
  unfold Obligations.ReadOfCpuid
  intro s rd h
  rw [exec_read rfl h (reg := .cpuid) rfl, ctrlRead]
  cases hx : s.params.xlen
  case x32 => rw [cpuidValue_x32 hx]
  case x64 => rw [cpuidValue_x64 hx]

/-- TIMER0's read view is the count with its low byte masked off and dingdong in bit 0 (10_state.md R22). -/
theorem timer0ReadView_eq_mask (t : Timer0) :
    timer0ReadView t = (t.count &&& ~~~0xFF#64) ||| (if t.dingdong then 1#64 else 0#64) := by
  apply BitVec.eq_of_getLsbD_eq
  intro i hi
  have hlow : (0xFF#64).getLsbD i = decide (i < 8) := by
    have all : ∀ j : Fin 64, (0xFF#64).getLsbD j.val = decide (j.val < 8) := by decide
    exact all ⟨i, hi⟩
  have hbit : (if t.dingdong then 1#64 else 0#64).getLsbD i = (decide (i = 0) && t.dingdong) := by
    cases t.dingdong <;> simp [hi]
  simp only [timer0ReadView, BitVec.getLsbD_append, BitVec.getLsbD_or, BitVec.getLsbD_and, BitVec.getLsbD_not,
    BitVec.getLsbD_extractLsb', BitVec.getLsbD_ofBool, BitVec.getLsbD_zero, hlow, hbit]
  rcases Nat.eq_zero_or_pos i with rfl | hpos
  · simp
  · rcases lt_or_ge i 8 with hlt | hge
    · have hgap : i - 1 < 7 := by omega
      simp [hlt, hpos.ne', hgap]
    · have hgap : ¬ i - 1 < 7 := by omega
      have hfield : 8 + (i - 1 - 7) = i := by omega
      have hwide : i - 1 - 7 < 56 := by omega
      simp [hpos.ne', hgap, hfield, hwide, hi, hge]

/-- Settles O25: the view is the mask. -/
theorem readOfTimer : Obligations.ReadOfTimer := by
  unfold Obligations.ReadOfTimer
  intro s rd h
  rw [← timer0ReadView_eq_mask]
  exact exec_read rfl h rfl

/-- Settles O26: the view keeps the pins there are, of which there are no more than register bits. -/
theorem readOfPins : Obligations.ReadOfPins := by
  unfold Obligations.ReadOfPins
  rintro s rd ⟨-, -, -, ⟨-, hgpioa⟩, -, hproc⟩
  have hbits := xlen_bits_le s.params
  exact ⟨fun h => ⟨_, exec_read rfl h rfl, lowBits_toNat _ _ (hgpioa.trans hbits)⟩,
    fun h => ⟨_, exec_read rfl h rfl, lowBits_toNat _ _ (hproc.trans hbits)⟩⟩

end Sys2Proof.Machine
end

section
/-! PROOFS. What each write of a control register does (40_ctrl_access.md R105 to R130). The operation on a number comes first; a
form is the same access. -/

namespace Sys2Proof.Machine

/-! ## Values -/

/-- The low 32 bits of a value, as a field (10_state.md R31). -/
theorem setWidth_eq_extract (v : Word) : v.setWidth 32 = v.extractLsb' 0 32 := by
  apply BitVec.eq_of_toNat_eq
  simp

/-- The low bits of a value, as a mask (40_ctrl_access.md R122, R124). -/
theorem lowBits_eq_mask {n : Nat} (h : n ≤ 64) (v : Word) : lowBits n v = v &&& BitVec.ofNat 64 (2 ^ n - 1) := by
  apply BitVec.eq_of_toNat_eq
  have hlt : 2 ^ n - 1 < 2 ^ 64 := by
    have := Nat.pow_le_pow_right (show 0 < 2 by decide) h
    have := Nat.two_pow_pos n
    omega
  rw [lowBits_toNat n v h, BitVec.toNat_and, BitVec.toNat_ofNat, Nat.mod_eq_of_lt hlt, Nat.and_two_pow_sub_one_eq_mod]

/-- What `Clear` and `Sleep` leave of dingdong, and the configuration a write of `CTRL_TIMER0` leaves (40_ctrl_access.md R117). -/
theorem timer0Write_eq (v : Word) (t : Timer0) :
    timer0Write v t =
      { count := if v.getLsbD 0 then 0 else t.count
        dingdong := if v.getLsbD 0 || v.getLsbD 3 then false else t.dingdong
        alarmEn := v.getLsbD 1
        forgetEn := v.getLsbD 2
        alarmSh := v.extractLsb' 8 4
        forgetSh := v.extractLsb' 16 4 } := by
  unfold timer0Write
  cases v.getLsbD 0 <;> cases v.getLsbD 3 <;> simp

theorem timer0Write_dingdong (v : Word) (t : Timer0) :
    (timer0Write v t).dingdong = if v.getLsbD 0 || v.getLsbD 3 then false else t.dingdong :=
  congrArg Timer0.dingdong (timer0Write_eq v t)

/-! ## Any number -/

section

variable {i : Instr} {s t : State} {rs cn : Nat} {reg : CtrlReg}

/-- An instruction that writes a register that is there, past its checks. -/
theorem exec_write (ha : accessOf i = some (rs, cn, .write)) (h : WritePasses s rs cn) (hr : ctrlRegOf s.params cn = some reg)
    (ht : ctrlWrite reg (readReg s rs) s = .ok t) : exec i s = .next (advancePc t) :=
  (exec_eq_writeCtrl ha s).trans (writeCtrl_ok h hr ht)

/-- The same, for a write to which the spec gives no meaning. -/
theorem exec_write_refused {r : Refusal} (ha : accessOf i = some (rs, cn, .write)) (h : WritePasses s rs cn)
    (hr : ctrlRegOf s.params cn = some reg) (ht : ctrlWrite reg (readReg s rs) s = .error r) : exec i s = .refused r :=
  (exec_eq_writeCtrl ha s).trans (writeCtrl_refused h hr ht)

end

theorem ctrlWrite_flags {v : Word} (h : v &&& 0xFFFFFFFFFFF80080#64 = 0#64) (s : State) :
    ctrlWrite .flags v s = .ok { s with flags := v } :=
  if_pos ((flagsReservedClear_iff v).2 h)

theorem ctrlWrite_flags_reserved {v : Word} (h : v &&& 0xFFFFFFFFFFF80080#64 ≠ 0#64) (s : State) :
    ctrlWrite .flags v s = .error .reservedFlagBits :=
  if_neg (mt (flagsReservedClear_iff v).1 h)

theorem ctrlWrite_mirrorflags {v : Word} (h : v &&& 0xFFFFFFFFFFF80080#64 = 0#64) (s : State) :
    ctrlWrite .mirrorflags v s = .ok { s with mirrorflags := v, written := { s.written with mirrorflags := true } } :=
  if_pos ((flagsReservedClear_iff v).2 h)

theorem ctrlWrite_mirrorflags_reserved {v : Word} (h : v &&& 0xFFFFFFFFFFF80080#64 ≠ 0#64) (s : State) :
    ctrlWrite .mirrorflags v s = .error .reservedFlagBits :=
  if_neg (mt (flagsReservedClear_iff v).1 h)

theorem ctrlWrite_timer0 {v : Word} (h : v &&& 0xFFFFFFFFFFF0F0F0#64 = 0#64) (s : State) :
    ctrlWrite .timer0 v s = .ok { s with timer0 := timer0Write v s.timer0 } :=
  if_pos ((timer0ReservedClear_iff v).2 h)

theorem ctrlWrite_timer0_reserved {v : Word} (h : v &&& 0xFFFFFFFFFFF0F0F0#64 ≠ 0#64) (s : State) :
    ctrlWrite .timer0 v s = .error .reservedTimerBits :=
  if_neg (mt (timer0ReservedClear_iff v).1 h)

theorem ctrlWrite_overlord (n : Fin 8) (v : Word) (s : State) :
    ctrlWrite (.overlord n) v s = .ok { s with overlord := s.overlord.set n (v.extractLsb' 0 32) } := by
  rw [ctrlWrite, setWidth_eq_extract]

/-- Settles O39: by the register written. -/
theorem numberedWriteOutcome : Obligations.NumberedWriteOutcome := by
  unfold Obligations.NumberedWriteOutcome
  intro s cn rs reg h hr
  have stores : ∀ {t : State}, ctrlWrite reg (readReg s rs) s = .ok t → exec (.ctrlwr cn rs) s = .next (advancePc t) :=
    exec_write rfl h hr
  have refuses : ∀ {r : Refusal}, ctrlWrite reg (readReg s rs) s = .error r → exec (.ctrlwr cn rs) s = .refused r :=
    exec_write_refused rfl h hr
  cases reg
  case cpuid => exact refuses rfl
  case excn => exact refuses rfl
  case flags => exact ⟨fun hv => stores (ctrlWrite_flags hv s), fun hv => refuses (ctrlWrite_flags_reserved hv s)⟩
  case mirrorflags =>
    exact ⟨fun hv => stores (ctrlWrite_mirrorflags hv s), fun hv => refuses (ctrlWrite_mirrorflags_reserved hv s)⟩
  case xaddr => exact stores rfl
  case mirrorxaddr => exact stores rfl
  case timer0 => exact ⟨fun hv => stores (ctrlWrite_timer0 hv s), fun hv => refuses (ctrlWrite_timer0_reserved hv s)⟩
  case system0 => exact stores rfl
  case system1 => exact stores rfl
  case gpioaPins => exact ⟨_, rfl, stores rfl⟩
  case processors => exact ⟨_, rfl, stores rfl⟩
  case mmuX n => exact stores rfl
  case mmuY n => exact stores rfl
  case overlord n => exact stores (ctrlWrite_overlord n _ s)

/-! ## The forms -/

/-- Settles O40: both refusals are those of the operation on the number. -/
theorem undescribedWritesAreRefused : Obligations.UndescribedWritesAreRefused := by
  unfold Obligations.UndescribedWritesAreRefused
  exact fun s rs => ⟨fun h => numberedWriteOutcome s 0 rs .cpuid h rfl, fun h => numberedWriteOutcome s 1 rs .excn h rfl⟩

/-- Settles O31: the write stores the value, and every entry goes to what `XADDR` holds. -/
theorem writeOfExceptionAddress : Obligations.WriteOfExceptionAddress := by
  unfold Obligations.WriteOfExceptionAddress
  exact fun s rs h => ⟨_, numberedWriteOutcome s 4 rs .xaddr h rfl, rfl, fun k => enterException_pc k _⟩

/-- Settles O32: both registers are stored as they are. -/
theorem writeOfSystemRegisters : Obligations.WriteOfSystemRegisters := by
  unfold Obligations.WriteOfSystemRegisters
  exact ⟨fun s rs h => numberedWriteOutcome s 8 rs .system0 h rfl, fun s rs h => numberedWriteOutcome s 9 rs .system1 h rfl⟩

/-- Settles O33: the write counts as written, so a `MODESWITCH` after it returns, and the return goes to what `MIRRORXADDR` holds. -/
theorem writeOfReturnAddress : Obligations.WriteOfReturnAddress := by
  unfold Obligations.WriteOfReturnAddress
  intro s rs h
  refine ⟨_, numberedWriteOutcome s 5 rs .mirrorxaddr h rfl, rfl, fun hs hm => ?_⟩
  exact ⟨_, exec_modeswitch hs (returnReady_iff.2 ⟨hm, rfl⟩), rfl⟩

/-- Settles O34: as the operation on the numbers 2 and 3. -/
theorem writeOfFlagsRegisters : Obligations.WriteOfFlagsRegisters := by
  unfold Obligations.WriteOfFlagsRegisters
  intro s rs
  have flags := numberedWriteOutcome s 2 rs .flags
  have mirrorflags := numberedWriteOutcome s 3 rs .mirrorflags
  exact ⟨fun h => (flags h rfl).1, fun h => (flags h rfl).2, fun h => (mirrorflags h rfl).1, fun h => (mirrorflags h rfl).2⟩

/-- Settles O35: as the operation on number 6, with the new TIMER0 written out. -/
theorem writeOfTimer : Obligations.WriteOfTimer := by
  unfold Obligations.WriteOfTimer
  intro s rs h v
  rw [← timer0Write_eq]
  exact numberedWriteOutcome s 6 rs .timer0 h rfl

/-- Settles O36: as the operations on numbers 0xA and 0xF, with the levels as a mask of the pins there are. -/
theorem writeOfPins : Obligations.WriteOfPins := by
  unfold Obligations.WriteOfPins
  rintro s rs ⟨-, -, -, ⟨-, hgpioa⟩, -, hproc⟩
  have hbits := xlen_bits_le s.params
  refine ⟨fun h => ?_, fun h => ?_⟩
  · obtain ⟨levels, rfl, outcome⟩ := numberedWriteOutcome s 0xA rs .gpioaPins h rfl
    rw [lowBits_eq_mask (hgpioa.trans hbits)] at outcome
    exact outcome
  · obtain ⟨levels, rfl, outcome⟩ := numberedWriteOutcome s 0xF rs .processors h rfl
    rw [lowBits_eq_mask (hproc.trans hbits)] at outcome
    exact outcome

/-- A write of `MMU_X[n]` of a slot there is. -/
theorem exec_write_mmuX {i : Instr} {s : State} {rs : Nat} (n : Fin 16) (ha : accessOf i = some (rs, 0x10 + n.val, .write))
    (hn : n.val < s.params.mmuSlots) (h : WritePasses s rs (0x10 + n.val)) :
    exec i s = .next { s with mmuX := s.mmuX.set n (readReg s rs), pc := nextPc s } :=
  exec_write ha h (ctrlRegOf_mmuX hn) rfl

/-- A write of `MMU_Y[n]` of a slot there is. -/
theorem exec_write_mmuY {i : Instr} {s : State} {rs : Nat} (n : Fin 16) (ha : accessOf i = some (rs, 0x20 + n.val, .write))
    (hn : n.val < s.params.mmuSlots) (h : WritePasses s rs (0x20 + n.val)) :
    exec i s = .next { s with mmuY := s.mmuY.set n (readReg s rs), pc := nextPc s } :=
  exec_write ha h (ctrlRegOf_mmuY hn) rfl

/-- Settles O37: each of the sixteen rows writes its own slot's register. -/
theorem writeOfMmuRegisters : Obligations.WriteOfMmuRegisters := by
  unfold Obligations.WriteOfMmuRegisters
  exact ⟨
    fun _ _ hn h => exec_write_mmuX 0 rfl hn h, fun _ _ hn h => exec_write_mmuX 1 rfl hn h,
    fun _ _ hn h => exec_write_mmuX 2 rfl hn h, fun _ _ hn h => exec_write_mmuX 3 rfl hn h,
    fun _ _ hn h => exec_write_mmuX 4 rfl hn h, fun _ _ hn h => exec_write_mmuX 5 rfl hn h,
    fun _ _ hn h => exec_write_mmuX 6 rfl hn h, fun _ _ hn h => exec_write_mmuX 7 rfl hn h,
    fun _ _ hn h => exec_write_mmuY 0 rfl hn h, fun _ _ hn h => exec_write_mmuY 1 rfl hn h,
    fun _ _ hn h => exec_write_mmuY 2 rfl hn h, fun _ _ hn h => exec_write_mmuY 3 rfl hn h,
    fun _ _ hn h => exec_write_mmuY 4 rfl hn h, fun _ _ hn h => exec_write_mmuY 5 rfl hn h,
    fun _ _ hn h => exec_write_mmuY 6 rfl hn h, fun _ _ hn h => exec_write_mmuY 7 rfl hn h⟩

/-- A write of an overlord register. -/
theorem exec_write_overlord {i : Instr} {s : State} {rs cn : Nat} (n : Fin 8) (ha : accessOf i = some (rs, cn, .write))
    (hr : ctrlRegOf s.params cn = some (.overlord n)) (h : WritePasses s rs cn) :
    exec i s = .next { s with overlord := s.overlord.set n ((readReg s rs).extractLsb' 0 32), pc := nextPc s } :=
  exec_write ha h hr (ctrlWrite_overlord n _ s)

/-- Settles O38: each of the eight rows writes its own register. -/
theorem writeOfOverlordRegisters : Obligations.WriteOfOverlordRegisters := by
  unfold Obligations.WriteOfOverlordRegisters
  exact ⟨
    fun _ _ h => exec_write_overlord 0 rfl rfl h, fun _ _ h => exec_write_overlord 1 rfl rfl h,
    fun _ _ h => exec_write_overlord 2 rfl rfl h, fun _ _ h => exec_write_overlord 3 rfl rfl h,
    fun _ _ h => exec_write_overlord 4 rfl rfl h, fun _ _ h => exec_write_overlord 5 rfl rfl h,
    fun _ _ h => exec_write_overlord 6 rfl rfl h, fun _ _ h => exec_write_overlord 7 rfl rfl h⟩

/-- Settles O51: only the written register's bits change, and they are the value's low 32. -/
theorem overlordBitPlacement : Obligations.OverlordBitPlacement := by
  unfold Obligations.OverlordBitPlacement
  intro s t n v i ht
  obtain rfl : t = { s with overlord := s.overlord.set n (v.setWidth 32) } := ctrlWrite_ok ht
  have hlow : i.toNat % 32 < 32 := Nat.mod_lt _ (by decide)
  simp only [overlordBit, Vector.getElem_set, eq_comm (a := n.val)]
  split
  · simp [hlow]
  · rfl

end Sys2Proof.Machine
end

section
/-! PROOFS. TIMER0's tick (60_exceptions.md R180 to R183), which asynchronous exception is taken (R161 to R168), what taking an
exception and returning from one does (R165, R170, 41_mode_switch.md R140 to R146), and the reset event (10_state.md R37). -/

namespace Sys2Proof.Machine

/-! ## The tick -/

/-- A threshold as a number (60_exceptions.md R181). -/
theorem threshold_toNat (sh : BitVec 4) : (threshold sh).toNat = 16 * 2 ^ sh.toNat := by
  have hsh : 2 ^ sh.toNat ≤ 2 ^ 15 := Nat.pow_le_pow_right (by decide) (by have := sh.isLt; omega)
  rw [threshold, BitVec.toNat_shiftLeft, Nat.shiftLeft_eq]
  exact Nat.mod_eq_of_lt (by simp only [BitVec.toNat_ofNat]; omega)

/-- The count goes up by one, modulo 2^XLEN (60_exceptions.md R180, R186). -/
theorem tickedCount_toNat (s : State) : (tickedCount s).toNat = (s.timer0.count.toNat + 1) % 2 ^ s.params.xlen.bits := by
  rw [tickedCount, toXlen_toNat, BitVec.toNat_add]
  exact Nat.mod_mod_of_dvd _ (pow_dvd_pow 2 (xlen_bits_le s.params))

/-- The new count is a threshold exactly when their numbers are the same. -/
theorem tickedCount_eq_threshold_iff (s : State) (sh : BitVec 4) :
    tickedCount s = threshold sh ↔ (s.timer0.count.toNat + 1) % 2 ^ s.params.xlen.bits = 16 * 2 ^ sh.toNat := by
  rw [← tickedCount_toNat, ← threshold_toNat, BitVec.toNat_inj]

theorem alarmNow_iff (s : State) :
    alarmNow s = true ↔ s.timer0.alarmEn = true ∧
      (s.timer0.count.toNat + 1) % 2 ^ s.params.xlen.bits = 16 * 2 ^ s.timer0.alarmSh.toNat := by
  rw [alarmNow, Bool.and_eq_true, beq_iff_eq, tickedCount_eq_threshold_iff]

theorem forgetNow_iff (s : State) :
    forgetNow s = true ↔ s.timer0.forgetEn = true ∧
      (s.timer0.count.toNat + 1) % 2 ^ s.params.xlen.bits = 16 * 2 ^ s.timer0.forgetSh.toNat := by
  rw [forgetNow, Bool.and_eq_true, beq_iff_eq, tickedCount_eq_threshold_iff]

/-- Settles O42: alarm and forget compare the new count, modulo 2^XLEN, with their thresholds. -/
theorem timerTickEffect : Obligations.TimerTickEffect := by
  unfold Obligations.TimerTickEffect
  intro s c
  refine ⟨_, rfl, ?count, ?dingdong, rfl, rfl, rfl, rfl⟩
  case count =>
    simp only [← forgetNow_iff, c]
    split
    · rfl
    · exact tickedCount_toNat s
  case dingdong => rw [Bool.or_eq_true, alarmNow_iff]

/-! ## Which asynchronous exception is taken -/

/-- The timer requests as its mode says (60_exceptions.md R161, R166). -/
theorem timerRequest_iff (s : State) : timerRequest (alarmNow s) (timerTick s) = true ↔ TimerRequested s := by
  unfold timerRequest
  cases hm : s.params.asyncMode <;> simp [TimerRequested, hm, alarmNow_iff]

/-- The order of the requests (60_exceptions.md R168 step 2). -/
theorem asyncRequest_of_enabled {s : State} (hx : flagExcnenable s.flags = true) :
    asyncRequest (alarmNow s) (timerTick s) =
      if timerRequest (alarmNow s) (timerTick s) = true ∧ flagTmxenable s.flags = true then some .timer
      else if s.inputs.hwReq = true ∧ flagHwxenable s.flags = true then some .hw
      else if s.inputs.cpReq = true ∧ flagCpxenable s.flags = true then some .cp
      else none := by
  simp [asyncRequest, hx]

/-- Settles O16: each request comes after those before it in the order, and a request is taken once the handler is set. -/
theorem asynchronousPriority : Obligations.AsynchronousPriority := by
  unfold Obligations.AsynchronousPriority
  intro s hx hr timer hw cp
  have order := asyncRequest_of_enabled hx
  simp only [timerRequest_iff] at order
  refine ⟨fun ht => ?_, fun ht hh => ?_, fun ht hh hc => ?_, fun ht hh hc => ?_⟩
  · rw [if_pos ht] at order
    exact step_of_asyncRequest order hr
  · rw [if_neg ht, if_pos hh] at order
    exact step_of_asyncRequest order hr
  · rw [if_neg ht, if_neg hh, if_pos hc] at order
    exact step_of_asyncRequest order hr
  · rw [if_neg ht, if_neg hh, if_neg hc] at order
    exact order

/-- Settles O17: exceptions are on where one is taken, and each branch of the order has its own request and enable. -/
theorem disabledRequestsAreNotTaken : Obligations.DisabledRequestsAreNotTaken := by
  unfold Obligations.DisabledRequestsAreNotTaken
  intro s k h
  have hx : flagExcnenable s.flags = true := asyncRequest_enabled (s := timerTick s) h
  refine ⟨hx, ?_⟩
  rw [asyncRequest_of_enabled hx] at h
  simp only [timerRequest_iff] at h
  split at h
  case isTrue ht => cases h; exact .inl ⟨rfl, ht.2, ht.1⟩
  split at h
  case isTrue hh => cases h; exact .inr (.inl ⟨rfl, hh.2, hh.1⟩)
  split at h
  case isTrue hc => cases h; exact .inr (.inr ⟨rfl, hc.2, hc.1⟩)
  cases h

/-! ## Exception entry -/

theorem entryReady_iff {s : State} : EntryReady s ↔ s.written.xaddr = true ∧ s.written.mirrorflags = true :=
  Bool.and_eq_true_iff

/-- Only the timer's own entry changes TIMER0: it lowers dingdong (60_exceptions.md R184). -/
theorem enterException_timer0_eq (k : ExcKind) (s : State) :
    (enterException k s).timer0 = if k = .timer then { s.timer0 with dingdong := false } else s.timer0 := by
  cases k <;> simp [dingdongAfterEntry]

/-- Settles O9: the entry by its definition, with what it does to TIMER0; the three outcomes of raising by `excnenable` and by what
has been written. -/
theorem exceptionEntryEffect : Obligations.ExceptionEntryEffect := by
  unfold Obligations.ExceptionEntryEffect
  intro k s
  refine ⟨?entry, fun hx h1 h2 => raiseException_on hx (entryReady_iff.2 ⟨h1, h2⟩), fun hx hunset => ?unset, raiseException_off⟩
  case entry => rw [← enterException_timer0_eq]; rfl
  case unset => exact raiseException_unset hx (Bool.and_eq_false_iff.2 hunset)

/-- Settles O15: raising enters the exception, which records `pc`. -/
theorem systemCallTakesException : Obligations.SystemCallTakesException := by
  unfold Obligations.SystemCallTakesException
  exact fun s hx hr => ⟨_, raiseException_on hx hr, rfl, rfl, rfl, rfl, rfl, rfl, rfl⟩

/-- Settles O19: the second entry swaps the flags pair back and records the handler's own address. -/
theorem nestedExceptionLosesTheFirst : Obligations.NestedExceptionLosesTheFirst := by
  unfold Obligations.NestedExceptionLosesTheFirst
  intro k1 k2 s
  simp

/-! ## `MODESWITCH` -/

/-- Settles O20: by `returnFromException`, or the refusal where one of the pair has not been written. -/
theorem modeSwitchEffect : Obligations.ModeSwitchEffect := by
  unfold Obligations.ModeSwitchEffect
  intro s hs
  refine ⟨fun hm hx => exec_modeswitch hs (returnReady_iff.2 ⟨hm, hx⟩), fun hunset => ?_⟩
  have hr : returnReady s = false := Bool.and_eq_false_iff.2 hunset
  simp [exec, execModeswitch, hs, hr]

/-- Settles O21: the entry swapped the flags pair and put `pc` into `MIRRORXADDR`; the return undoes both. -/
theorem handlerReturnsToInterruptedCode : Obligations.HandlerReturnsToInterruptedCode := by
  unfold Obligations.HandlerReturnsToInterruptedCode
  intro k s hs hm
  refine ⟨_, exec_modeswitch (s := enterException k s) hs (returnReady_iff.2 ⟨hm, rfl⟩), fun hk => ?_, rfl⟩
  rw [returnFromException_timer0, enterException_timer0_eq, if_neg hk]

/-! ## Reset -/

/-- Settles O52: the reset flags have `regprot` 255, and the event clears the GPIOA latch. -/
theorem resetValuesOfTheSource : Obligations.ResetValuesOfTheSource := by
  unfold Obligations.ResetValuesOfTheSource
  have hregprot : flagRegprot resetFlags = 255 := by decide
  exact ⟨rfl, fun s => ⟨hregprot, applyReset_gpioaOut s⟩⟩

/-- Settles O53: the bits of the reset flags, and the other fields as the event leaves them. -/
theorem resetTable : Obligations.ResetTable := by
  unfold Obligations.ResetTable
  have hbits : flagSysmode resetFlags = true ∧ flagExcnenable resetFlags = false ∧ flagMmuenable resetFlags = false ∧
      flagOverlordenable resetFlags = false ∧ flagRemenable resetFlags = false := by decide
  obtain ⟨hsys, hexcn, hmmu, hovl, hrem⟩ := hbits
  exact fun s => ⟨rfl, hsys, hexcn, hmmu, hovl, hrem, rfl, rfl, rfl, rfl, rfl, rfl⟩

end Sys2Proof.Machine
end

section
/-! PROOFS. The Real-Time MMU: the slot that is used (20_memory.md R61, R62), the accesses it denies (R63, R64), the address it gives
(R65) and the accesses that have no meaning (D27, D28). -/

namespace Sys2Proof.Machine

/-! ## The slot that is used -/

/-- A slot matches when it applies and covers the address (20_memory.md R61). -/
theorem slotMatches_iff {x va : Word} {k : AccessKind} :
    slotMatches x k va = true ↔ slotApplies x k = true ∧ slotCovers x va = true :=
  Bool.and_eq_true_iff

theorem slotMatches_eq_false {x va : Word} {k : AccessKind} (h : slotApplies x k = true → slotCovers x va = false) :
    slotMatches x k va = false :=
  Bool.eq_false_iff.2 fun hm => Bool.eq_false_iff.1 (h (slotMatches_iff.1 hm).1) (slotMatches_iff.1 hm).2

/-- A search up to slot `n` passes over the lower slots if none of them matches and those that apply are aligned. -/
theorem lowestMatch_reaches {s : State} {k : AccessKind} {va : Word} {n : Fin 16} (hn : n.val < s.params.mmuSlots)
    (hm : ∀ m : Fin 16, m < n → slotMatches s.mmuX[m] k va = false)
    (ha : ∀ m : Fin 16, m < n → slotApplies s.mmuX[m] k = true → slotAligned s.mmuX[m] s.mmuY[m] = true) :
    ∃ after, lowestMatch s k va = lowestMatchIn s k va (n :: after) := by
  obtain ⟨before, after, hlist, hlower⟩ := slotList_split hn
  refine ⟨after, ?_⟩
  rw [lowestMatch, hlist]
  exact lowestMatchIn_skip (fun m hb => hm m (hlower m hb)) (fun m hb => ha m (hlower m hb))

/-- Settles O45: the search passes over what does not match, up to the slot that does or to the end. -/
theorem lowestMatchIsTheLeast : Obligations.LowestMatchIsTheLeast := by
  unfold Obligations.LowestMatchIsTheLeast
  refine fun s k va => ⟨fun n hn hmatch hm ha => ?_, fun hm ha => ?_⟩
  · obtain ⟨after, hreach⟩ := lowestMatch_reaches hn hm (fun m hlt => ha m hlt.le)
    obtain ⟨happlies, hcovers⟩ := slotMatches_iff.1 hmatch
    rw [hreach, lowestMatchIn, if_pos happlies, if_pos (ha n le_rfl happlies), if_pos hcovers]
  · have skip := lowestMatchIn_skip (before := slotList s.params) (after := [])
      (fun m hb => hm m (mem_slotList.1 hb)) (fun m hb => ha m (mem_slotList.1 hb))
    rwa [List.append_nil] at skip

/-! ## Denied accesses -/

/-- The exception of a failed access is the fetch's own or the bus's (20_memory.md R64, D29). -/
theorem AccessKind.failure_eq (k : AccessKind) : k.failure = if k = .fetch then .fetch else .bus := by
  cases k <;> rfl

/-- An access that no slot matches fails (20_memory.md R64). -/
theorem translate_unmatched {s : State} {k : AccessKind} {va : Word} (h : flagMmuenable s.flags = true)
    (hn : lowestMatch s k va = .ok none) (size : Nat) : translate s k va size = .error (.raise k.failure) := by
  simp only [translate, accessSlot, h, hn, if_true]

/-- An access that its slot does not permit fails, wherever it ends (20_memory.md R63, R64; log 14). -/
theorem translate_not_permitted {s : State} {k : AccessKind} {va : Word} {n : Fin 16} (h : flagMmuenable s.flags = true)
    (hn : lowestMatch s k va = .ok (some n)) (hp : permitted s s.mmuX[n] k = false) (size : Nat) :
    translate s k va size = .error (.raise k.failure) := by
  simp only [translate, accessSlot, h, hn, hp, if_true, Bool.false_eq_true, if_false]

/-- What keeps a slot from permitting an access (20_memory.md R63). -/
theorem permitted_eq_false {s : State} {x : Word} {k : AccessKind}
    (h : (slotSystem x = true ∧ flagSysmode s.flags = false) ∨ ((k = .read ∨ k = .ioread) ∧ slotRead x = false) ∨
      ((k = .write ∨ k = .iowrite) ∧ slotWrite x = false) ∨ (k = .fetch ∧ slotInstr x = false)) : permitted s x k = false := by
  rcases h with ⟨hsys, huser⟩ | ⟨rfl | rfl, hread⟩ | ⟨rfl | rfl, hwrite⟩ | ⟨rfl, hinstr⟩
  · simp [permitted, hsys, huser]
  · simp [permitted, hread]
  · simp [permitted, hread]
  · simp [permitted, hwrite]
  · simp [permitted, hwrite]
  · simp [permitted, hinstr]

/-- Settles O46: each cause means that the slot does not permit the access. -/
theorem deniedAccessRaises : Obligations.DeniedAccessRaises := by
  unfold Obligations.DeniedAccessRaises
  rintro s k va size h (hnone | ⟨n, hn, hdenied⟩) <;> rw [← AccessKind.failure_eq]
  · exact translate_unmatched h hnone size
  · exact translate_not_permitted h hn (permitted_eq_false hdenied) size

/-! ## Accesses without a meaning -/

/-- A permitted access past the end of its slot is refused (20_memory.md R65, D28). -/
theorem translate_crossing {s : State} {k : AccessKind} {va : Word} {n : Fin 16} {size : Nat} (h : flagMmuenable s.flags = true)
    (hn : lowestMatch s k va = .ok (some n)) (hp : permitted s s.mmuX[n] k = true)
    (hs : (slotBase s.mmuX[n]).toNat + slotSize s.mmuX[n] < va.toNat + size) :
    translate s k va size = .error (.refuse (.crossesSlotEnd n)) := by
  simp only [translate, accessSlot, h, hn, hp, if_true, if_neg (Nat.not_le.2 hs)]

/-- Settles O48: the crossing is checked once the slot permits the access; the search ends at a misaligned slot it reaches. -/
theorem slotRefusals : Obligations.SlotRefusals := by
  unfold Obligations.SlotRefusals
  refine fun s k va size n h => ⟨translate_crossing h, fun hn happlies hmis hlower => ?_⟩
  obtain ⟨after, hreach⟩ := lowestMatch_reaches hn (fun m hlt => (hlower m hlt).1) (fun m hlt => (hlower m hlt).2)
  have hfound : lowestMatch s k va = .error (.refuse (.misalignedSlot n)) := by
    rw [hreach, lowestMatchIn, if_pos happlies, if_neg (Bool.eq_false_iff.1 hmis)]
  simp only [translate, accessSlot, h, hfound, if_true]

/-! ## The physical address -/

/-- A base that is a multiple of a power of two, with an offset below that power: adding is joining bits. -/
theorem add_eq_or_of_multiple {b o k : Nat} (hb : b % 2 ^ k = 0) (ho : o < 2 ^ k) : b + o = b ||| o := by
  obtain ⟨c, rfl⟩ := Nat.dvd_of_mod_eq_zero hb
  rw [← Nat.two_pow_add_eq_or_of_lt ho]

/-- The slot a search finds is aligned and covers the address (20_memory.md R61). -/
theorem lowestMatch_some {s : State} {k : AccessKind} {va : Word} {n : Fin 16} (h : lowestMatch s k va = .ok (some n)) :
    ((slotBase s.mmuX[n]).toNat % slotSize s.mmuX[n] = 0 ∧ (slotBase s.mmuY[n]).toNat % slotSize s.mmuX[n] = 0) ∧
    (slotBase s.mmuX[n]).toNat ≤ va.toNat ∧ va.toNat < (slotBase s.mmuX[n]).toNat + slotSize s.mmuX[n] := by
  obtain ⟨-, -, haligned, hcovers⟩ := lowestMatchIn_some h
  simp only [slotAligned, slotCovers, Bool.and_eq_true, beq_iff_eq, decide_eq_true_eq] at haligned hcovers
  exact ⟨haligned, hcovers⟩

/-- The physical address as a number: the physical base plus the offset in the slot, modulo 2^XLEN (20_memory.md R65). -/
theorem physAddr_toNat {s : State} {n : Fin 16} {va : Word} (h : (slotBase s.mmuX[n]).toNat ≤ va.toNat) :
    (physAddr s n va).toNat =
      ((slotBase s.mmuY[n]).toNat + (va.toNat - (slotBase s.mmuX[n]).toNat)) % 2 ^ s.params.xlen.bits := by
  have hdvd : 2 ^ s.params.xlen.bits ∣ 2 ^ 64 := pow_dvd_pow 2 (xlen_bits_le s.params)
  rw [physAddr, toXlen_toNat, BitVec.toNat_add, Nat.mod_mod_of_dvd _ hdvd, BitVec.toNat_sub_of_le h]

/-- In an aligned slot the physical address is the physical base with the low bits of the address in it (20_memory.md R65, D27). -/
theorem physAddr_eq_or {s : State} {k : AccessKind} {va : Word} {n : Fin 16} (hl : s.Legal)
    (h : lowestMatch s k va = .ok (some n)) :
    physAddr s n va = slotBase s.mmuY[n] ||| (va &&& BitVec.ofNat 64 (slotSize s.mmuX[n] - 1)) := by
  obtain ⟨⟨hx, hy⟩, hlow, hhigh⟩ := lowestMatch_some h
  obtain ⟨j, hj, hsize⟩ := slotSize_eq s.mmuX[n]
  have hfit : (slotBase s.mmuY[n]).toNat < 2 ^ s.params.xlen.bits := by
    rw [slotBase_toNat]
    exact lt_of_le_of_lt (Nat.div_mul_le_self _ _) (hl.mmuY n n.isLt)
  have hoffset : va.toNat - (slotBase s.mmuX[n]).toNat = va.toNat % 2 ^ (10 + j) := by
    obtain ⟨c, hc⟩ := Nat.dvd_of_mod_eq_zero hx
    obtain ⟨o, ho⟩ := Nat.exists_eq_add_of_le hlow
    rw [hsize] at hc hhigh
    rw [ho, Nat.add_sub_cancel_left, hc, Nat.mul_add_mod, Nat.mod_eq_of_lt (by omega)]
  have hlt : va.toNat % 2 ^ (10 + j) < 2 ^ (10 + j) := Nat.mod_lt _ (Nat.two_pow_pos _)
  have hspace : 2 ^ (10 + j) ≤ 2 ^ s.params.xlen.bits :=
    Nat.pow_le_pow_right (by decide) (by cases s.params.xlen <;> simp only [Xlen.bits] <;> omega)
  have hmask : 2 ^ (10 + j) - 1 < 2 ^ 64 :=
    lt_of_lt_of_le (Nat.sub_one_lt (Nat.two_pow_pos _).ne') (Nat.pow_le_pow_right (by decide) (by omega))
  apply BitVec.eq_of_toNat_eq
  rw [hsize] at hy ⊢
  rw [physAddr_toNat hlow, hoffset, add_eq_or_of_multiple hy hlt,
    Nat.mod_eq_of_lt (Nat.or_lt_two_pow hfit (lt_of_lt_of_le hlt hspace)), BitVec.toNat_or, BitVec.toNat_and, BitVec.toNat_ofNat,
    Nat.mod_eq_of_lt hmask, Nat.and_two_pow_sub_one_eq_mod]

/-- Settles O47: by what a translation goes through; the address in both forms. -/
theorem translatedAddress : Obligations.TranslatedAddress := by
  unfold Obligations.TranslatedAddress
  refine fun s k va size hl _ h => ⟨fun n hn hp hs => ?_, fun pa ht => ?_⟩
  · obtain ⟨-, hlow, -⟩ := lowestMatch_some hn
    exact ⟨_, translate_slot h hn hp hs, physAddr_toNat hlow, physAddr_eq_or hl hn⟩
  · obtain ⟨n, hn, hp, hs, -⟩ := translate_on h ht
    exact ⟨n, hn, hp, hs⟩

end Sys2Proof.Machine
end

section
/-! PROOFS. Memory behind an access: what is written is what a later access to the same place reads (00_scope.md R8, 20_memory.md
R70, R71), and that an access whose address fails goes no further (60_exceptions.md R153, R154). -/

namespace Sys2Proof.Machine

/-! ## Bytes written and read -/

/-- Each byte written reads back, since the bytes of an access have different addresses. -/
theorem memRead_memWriteFrom (p : Params) (pa : Word) (bytes : List Byte) :
    ∀ (m : Memory) (k : Nat) (_ : k + bytes.length ≤ 2 ^ p.xlen.bits) (j : Nat) (hj : j < bytes.length),
      memRead (memWriteFrom p m pa k bytes) (byteAddr p pa (k + j)) = some bytes[j] := by
  induction bytes with
  | nil => exact fun _ _ _ j hj => absurd hj (Nat.not_lt_zero j)
  | cons b rest ih =>
    intro m k hk j hj
    rw [List.length_cons] at hk hj
    rw [memWriteFrom]
    cases j with
    | zero =>
      have later : ∀ i, k + 1 ≤ i → i < k + 1 + rest.length → byteAddr p pa (k + 0) ≠ byteAddr p pa i := by
        intro i h1 h2 e
        have := byteAddr_inj (by omega) (by omega) e
        omega
      rw [memRead_memWriteFrom_other p pa _ rest _ _ later, memRead_memWrite]
      exact if_pos rfl
    | succ j =>
      rw [← Nat.add_assoc, Nat.add_right_comm]
      exact ih _ (k + 1) (by omega) j (by omega)

/-- An access of at most eight bytes is far smaller than the address space. -/
theorem le_space {n : Nat} (p : Params) (h : n ≤ 8) : n ≤ 2 ^ p.xlen.bits := by
  have : 2 ^ 3 ≤ 2 ^ p.xlen.bits := Nat.pow_le_pow_right (by decide) (by cases p.xlen <;> decide)
  omega

/-- Bytes that memory holds are the bytes an access reads. -/
theorem memReadBytes_ok {s : State} {pa : Word} {bytes : List Byte} :
    ∀ {k : Nat}, (∀ j (hj : j < bytes.length), memRead s.mem (byteAddr s.params pa (k + j)) = some bytes[j]) →
      memReadBytes s pa k bytes.length = .ok bytes := by
  induction bytes with
  | nil => exact fun _ => rfl
  | cons b rest ih =>
    intro k h
    have first : memReadByte s pa k = .ok b := memReadByte_ok (h 0 (Nat.zero_lt_succ _))
    have others : memReadBytes s pa (k + 1) rest.length = .ok rest := ih fun j hj => by
      rw [Nat.add_assoc, Nat.add_comm 1 j]
      exact h (j + 1) (Nat.succ_lt_succ hj)
    rw [List.length_cons, memReadBytes, first, others]
    rfl

/-! ## Values and bytes -/

@[simp] theorem valueBytes_length (o : ByteOrder) (n : Nat) (v : Word) : (valueBytes o n v).length = n := by
  cases o <;> simp [valueBytes]

/-- Byte `k` of a value as it is stored, low byte first (20_memory.md R71). -/
theorem valueBytes_little_getElem {n : Nat} (v : Word) {k : Nat} (hk : k < (valueBytes .little n v).length) :
    (valueBytes .little n v)[k] = v.extractLsb' (8 * k) 8 := by
  simp [valueBytes]

/-- The same, high byte first. -/
theorem valueBytes_big_getElem {n : Nat} (v : Word) {k : Nat} (hk : k < (valueBytes .big n v).length) :
    (valueBytes .big n v)[k] = v.extractLsb' (8 * (n - 1 - k)) 8 := by
  simp [valueBytes]

/-- The bytes of a value from byte `j` on, as a number. -/
theorem foldr_extracts (v : Word) : ∀ (n j : Nat),
    ((List.range n).map fun k => v.extractLsb' (8 * (j + k)) 8).foldr (fun b r => b.toNat + 256 * r) 0 =
      v.toNat / 2 ^ (8 * j) % 2 ^ (8 * n) := by
  intro n
  induction n with
  | zero => intro j; simp [Nat.mod_one]
  | succ n ih =>
    intro j
    have shift : (fun k => v.extractLsb' (8 * (j + k)) 8) ∘ Nat.succ = fun k => v.extractLsb' (8 * (j + 1 + k)) 8 := by
      funext k
      simp only [Function.comp_apply, Nat.succ_eq_add_one, Nat.add_assoc, Nat.add_comm 1 k]
    rw [List.range_succ_eq_map, List.map_cons, List.foldr_cons, List.map_map, shift, ih (j + 1), BitVec.extractLsb'_toNat,
      Nat.shiftRight_eq_div_pow, Nat.mul_add 8 n 1, Nat.add_comm (8 * n), Nat.pow_add, Nat.mod_mul, Nat.div_div_eq_div_mul,
      ← Nat.pow_add, Nat.mul_add 8 j 1, Nat.add_zero]

/-- The stored bytes of a value make its low bytes, in either order (20_memory.md R71). -/
theorem bytesValue_valueBytes (o : ByteOrder) (n : Nat) (v : Word) :
    bytesValue o (valueBytes o n v) = v.toNat % 2 ^ (8 * n) := by
  have little := foldr_extracts v n 0
  simp only [Nat.zero_add, Nat.mul_zero, Nat.pow_zero, Nat.div_one] at little
  cases o with
  | little => exact little
  | big =>
    simp only [bytesValue, valueBytes, List.foldl_reverse]
    simpa only [Nat.add_comm] using little

/-! ## Accesses in states with the same slots -/

namespace AgreeOnEnabledSlots

variable {s t : State}

/-- What memory holds is no matter to a translation. -/
theorem of_memWriteBytes (s : State) (pa : Word) (bytes : List Byte) : AgreeOnEnabledSlots s (memWriteBytes s pa bytes) where
  params := rfl
  flags := rfl
  slot _ := .inr ⟨rfl, rfl⟩

theorem busAccess_eq (h : AgreeOnEnabledSlots s t) (k : AccessKind) (va : Word) (size : Nat) :
    busAccess t k va size = busAccess s k va size := by
  have answers : ∀ pa, busAnswers t k pa size = busAnswers s k pa size := fun pa => by rw [busAnswers, h.params, busAnswers]
  simp only [busAccess, h.translate_eq, answers]

theorem dataAccess_eq (h : AgreeOnEnabledSlots s t) (k : AccessKind) (va : Word) (size : Nat) :
    dataAccess t k va size = dataAccess s k va size := by
  simp only [dataAccess, h.busAccess_eq, dataAligned, h.params]

theorem fetchAddr_eq (h : AgreeOnEnabledSlots s t) (hpc : t.pc = s.pc) : fetchAddr t = fetchAddr s := by
  simp only [fetchAddr, h.params, hpc, h.busAccess_eq]

end AgreeOnEnabledSlots

/-! ## Data accesses -/

/-- Settles O50: the bytes written are those of the value in the data order, and a read of the same place reads them. -/
theorem storedDataIsLoaded : Obligations.StoredDataIsLoaded := by
  unfold Obligations.StoredDataIsLoaded
  intro s va pa v n hn hwrite
  have stored : ∀ k (hk : k < (valueBytes s.params.dataOrder n v).length),
      memRead (memWriteBytes s pa (valueBytes s.params.dataOrder n v)).mem (byteAddr s.params pa (0 + k)) =
        some (valueBytes s.params.dataOrder n v)[k] :=
    memRead_memWriteFrom s.params pa _ s.mem 0 (by rw [Nat.zero_add, valueBytes_length]; exact le_space _ hn)
  refine ⟨memWriteBytes s pa (valueBytes s.params.dataOrder n v), ?succeeds, fun k hk => ?written, fun a ha => ?others, rfl,
    fun hread => ?loaded⟩
  case succeeds => rw [storeData, hwrite]
  case written =>
    have byte := stored k (by rwa [valueBytes_length])
    rw [Nat.zero_add] at byte
    rw [byte]
    cases s.params.dataOrder with
    | little => exact congrArg some (valueBytes_little_getElem v _)
    | big => exact congrArg some (valueBytes_big_getElem v _)
  case others =>
    refine memRead_memWriteFrom_other s.params pa a _ s.mem 0 fun j _ hj => ha j ?_
    rwa [valueBytes_length, Nat.zero_add] at hj
  case loaded =>
    have bytes := memReadBytes_ok stored
    rw [valueBytes_length] at bytes
    rw [loadData, (AgreeOnEnabledSlots.of_memWriteBytes s pa _).dataAccess_eq, hread]
    simp only [bytes, memWriteBytes_params, bytesValue_valueBytes]

/-! ## Fetches -/

/-- The stored bytes of a word are four, and the fetch sees the word in them (20_memory.md R70). -/
theorem storedBytes_seen (s : State) (w : BitVec 32) :
    ∃ b0 b1 b2 b3, storedBytes s w = [b0, b1, b2, b3] ∧ seenWord s b0 b1 b2 b3 = w := by
  have four : ∃ b0 b1 b2 b3, storedBytes s w = [b0, b1, b2, b3] := by
    unfold storedBytes splitWord
    cases s.params.instrBaseOrder <;> exact ⟨_, _, _, _, rfl⟩
  obtain ⟨b0, b1, b2, b3, h⟩ := four
  refine ⟨b0, b1, b2, b3, h, ?_⟩
  rw [seenWord, assembleWord_splitWord h]
  cases flagInstrendswap s.flags <;> simp [byteReverse_byteReverse]

/-- Settles O5: the four bytes read back, and the fetch sees the word in them; the write moves no fetch and changes only memory. -/
theorem placedWordIsFetched : Obligations.PlacedWordIsFetched := by
  unfold Obligations.PlacedWordIsFetched
  intro s pa nbits w hpa
  have placed : s.withFetchWord nbits w = memWriteBytes s pa (storedBytes s (tableWord nbits w)) := by
    rw [State.withFetchWord, placeWord, hpa]
  obtain ⟨b0, b1, b2, b3, hbytes, hseen⟩ := storedBytes_seen s (tableWord nbits w)
  rw [placed, hbytes]
  refine ⟨?fetched, fun a ha => ?others, rfl⟩
  case fetched =>
    have stored := memRead_memWriteFrom s.params pa [b0, b1, b2, b3] s.mem 0 (le_space s.params (n := 4) (by decide))
    have word : wordAt (memWriteBytes s pa [b0, b1, b2, b3]) pa = .ok (tableWord nbits w) :=
      (wordAt_ok (stored 0 (by simp)) (stored 1 (by simp)) (stored 2 (by simp)) (stored 3 (by simp))).trans
        (congrArg Except.ok hseen)
    rw [fetchWord, (AgreeOnEnabledSlots.of_memWriteBytes s pa _).fetchAddr_eq rfl, hpa]
    simp only [word, tableWord]
  case others =>
    exact memRead_memWriteFrom_other s.params pa a _ s.mem 0 fun j _ hj => ha j (by simpa using hj)

/-! ## Accesses that fail -/

/-- A fetch at an address the wider set's alignment rule allows (20_memory.md R72, I33; log 8). -/
theorem fetchAddr_aligned {s : State} (h : s.params.misalignedPc = none ∨ s.pc.toNat % 4 = 0) :
    fetchAddr s = busAccess s .fetch s.pc 4 := by
  unfold fetchAddr
  rcases h with h | h
  · rw [h]
  · split
    · rfl
    · exact if_pos h

/-- A fetch at an address that rule forbids. -/
theorem fetchAddr_misaligned {s : State} {c : Nat} (hc : s.params.misalignedPc = some c) (h : s.pc.toNat % 4 ≠ 0) :
    fetchAddr s = .error (.raise (.other c)) := by
  simp [fetchAddr, hc, h]

theorem busAccess_of_translate_error {s : State} {k : AccessKind} {va : Word} {size : Nat} {e : Stop}
    (h : translate s k va size = .error e) : busAccess s k va size = .error e := by
  rw [busAccess, h]

/-- An access that its bus does not answer fails (60_exceptions.md R153, R154). -/
theorem busAccess_unanswered {s : State} {k : AccessKind} {va pa : Word} {size : Nat} (h : translate s k va size = .ok pa)
    (hb : busAnswers s k pa size = false) : busAccess s k va size = .error (.raise k.failure) := by
  simp [busAccess, h, hb]

/-- A data access at an address the wider set's alignment rule allows. -/
theorem dataAccess_aligned {s : State} {va : Word} {size : Nat} (h : dataAligned s va size = true) (k : AccessKind) :
    dataAccess s k va size = busAccess s k va size := by
  rw [dataAccess, h]
  cases s.params.misalignedData <;> rfl

/-- A data access at an address that rule forbids. -/
theorem dataAccess_misaligned {s : State} {va : Word} {size c : Nat} (hc : s.params.misalignedData = some c) (hs : 1 < size)
    (h : va.toNat % size ≠ 0) (k : AccessKind) : dataAccess s k va size = .error (.raise (.other c)) := by
  have hd : dataAligned s va size = false := by simp [dataAligned, hc, h, hs]
  simp [dataAccess, hc, hd]

/-- Settles O49: alignment, translation and bus in their order, each with its exception; a failed access gives the load and the store
nothing to go on with, and the instruction that made it raises. -/
theorem busFailureRaises : Obligations.BusFailureRaises := by
  unfold Obligations.BusFailureRaises
  intro s va v size
  refine ⟨fun pa ht hb ha => ?fetch, fun c hc h => fetchAddr_misaligned hc h, fun k hk hd hfail => ?data,
    fun k c hc hs h => dataAccess_misaligned hc hs h k, fun e he => by rw [loadData, he], fun e he => by rw [storeData, he],
    fun α a rest k ha => ?outcome⟩
  case fetch => rw [fetchAddr_aligned ha, busAccess_unanswered ht hb, AccessKind.failure]
  case data =>
    rw [dataAccess_aligned hd]
    rcases hfail with ht | ⟨pa, ht, hb⟩
    · exact busAccess_of_translate_error ht
    · rw [busAccess_unanswered ht hb, AccessKind.failure_eq, if_neg hk]
  case outcome =>
    have raises : accessThen a s rest = raiseException k s := by rw [ha]; rfl
    rw [raises]
    exact ⟨fun hx hr => ⟨_, raiseException_on hx hr, rfl, rfl⟩, raiseException_unset, raiseException_off⟩

end Sys2Proof.Machine
end

section
/-! PROOFS. A step up to its instruction: the fetch, its checks in their order, and what each of them ends in (60_exceptions.md R168
steps 3 to 6). -/

namespace Sys2Proof.Machine

/-! ## The fetch and its checks -/

section

variable {s : State} {w : BitVec 32}

theorem fetchWord_of_fetchAddr_error {e : Stop} (h : fetchAddr s = .error e) : fetchWord s = .error e := by
  rw [fetchWord, h]

theorem fetchWord_of_wordAt {pa : Word} (ha : fetchAddr s = .ok pa) (hw : wordAt s pa = .ok w) : fetchWord s = .ok w := by
  simp only [fetchWord, ha, hw]

/-- A fetch sees the same word after the tick. -/
theorem fetchWord_timerTick (s : State) : fetchWord (timerTick s) = fetchWord s := by
  rw [fetchWord, fetchAddr_timerTick]
  rfl

/-- An instruction passes the same checks after the tick. -/
theorem fetchInstr_timerTick (s : State) : fetchInstr (timerTick s) = fetchInstr s := by
  rw [fetchInstr, fetchWord_timerTick]
  rfl

theorem fetchInstr_of_fetchAddr_error {e : Stop} (h : fetchAddr s = .error e) : fetchInstr s = .error e := by
  rw [fetchInstr, fetchWord_of_fetchAddr_error h]

/-- First check: no instruction has a meaning with `remenable` set (30_encoding.md R90). -/
theorem fetchInstr_remenable (h : fetchWord s = .ok w) (hr : flagRemenable s.flags = true) :
    fetchInstr s = .error (.refuse .riscEmulationMode) := by
  simp only [fetchInstr, h, hr, if_true]

/-- Second check: overlord mode (60_exceptions.md R156). -/
theorem fetchInstr_overloaded (h : fetchWord s = .ok w) (hr : flagRemenable s.flags = false) (ho : overloaded s w = true) :
    fetchInstr s = .error (.raise .overlord) := by
  simp only [fetchInstr, h, hr, ho, Bool.false_eq_true, if_false, if_true]

/-- Third check: the word is no instruction (60_exceptions.md R159). -/
theorem fetchInstr_unimplemented {e : DecodeError} (h : fetchWord s = .ok w) (hr : flagRemenable s.flags = false)
    (ho : overloaded s w = false) (hd : decodeWord w = .error e) : fetchInstr s = .error (unimplementedStop s e) := by
  simp only [fetchInstr, h, hr, ho, hd, Bool.false_eq_true, if_false]

/-- Past all checks the instruction is the decoded one. -/
theorem fetchInstr_decoded {i : Instr} (h : fetchWord s = .ok w) (hr : flagRemenable s.flags = false)
    (ho : overloaded s w = false) (hd : decodeWord w = .ok i) : fetchInstr s = .ok i := by
  simp only [fetchInstr, h, hr, ho, hd, Bool.false_eq_true, if_false]

end

/-! ## The step -/

section

variable {s : State}

/-- Without an asynchronous exception, an instruction that is fetched is executed after the tick. -/
theorem step_of_instr {i : Instr} (ha : asyncRequest (alarmNow s) (timerTick s) = none) (h : fetchInstr s = .ok i) :
    step s = thenSample (exec i (timerTick s)) := by
  simp only [step, coreCycle, stepTicked, ha, fetchInstr_timerTick, h]

/-- Without an asynchronous exception, a step whose fetch or checks stop it ends as they say. -/
theorem step_of_stop {e : Stop} (ha : asyncRequest (alarmNow s) (timerTick s) = none) (h : fetchInstr s = .error e) :
    step s = thenSample (stopOutcome e (timerTick s)) := by
  simp only [step, coreCycle, stepTicked, ha, fetchInstr_timerTick, h]

/-- A step whose fetch or checks raise an exception takes it at the instruction's own address. -/
theorem stepTakes_of_raise {k : ExcKind} (ha : asyncRequest (alarmNow s) (timerTick s) = none)
    (h : fetchInstr s = .error (.raise k)) : StepTakes s k := by
  have hstep : step s = thenSample (raiseException k (timerTick s)) := step_of_stop ha h
  refine ⟨fun hx hr => ⟨_, ?entered, rfl, rfl⟩, fun hx hr => ?unset, fun hx => ?off⟩
  case entered => rw [hstep, raiseException_on (s := timerTick s) hx hr, thenSample]
  case unset => rw [hstep, raiseException_unset (s := timerTick s) hx hr, thenSample]
  case off => rw [hstep, raiseException_off (s := timerTick s) hx, thenSample]

/-- With exceptions on and the handler set, that step's next state. -/
theorem StepTakes.step_next {k : ExcKind} (h : StepTakes s k) (hx : flagExcnenable s.flags = true) (hr : EntryReady s) :
    step s = .next (sampleInputs (enterException k (timerTick s))) := by
  obtain ⟨t, ht, rfl, -⟩ := h.1 hx hr
  exact ht

end

/-! ## The obligations -/

/-- Settles O6: the four bytes make the word the fetch sees, which passes the checks and decodes to `i`. -/
theorem stepRunsDecodedInstruction : Obligations.StepRunsDecodedInstruction := by
  unfold Obligations.StepRunsDecodedInstruction
  intro s pa b0 b1 b2 b3 i ha hpa h0 h1 h2 h3 hr ho hd _
  have hword : fetchWord s = .ok (seenWord s b0 b1 b2 b3) := fetchWord_of_wordAt hpa (wordAt_ok h0 h1 h2 h3)
  rw [step_of_instr ha (fetchInstr_decoded hword hr ho hd)]
  cases exec i (timerTick s) <;> rfl

/-- Settles O7: the first check after the fetch refuses. -/
theorem riscEmulationIsRefused : Obligations.RiscEmulationIsRefused := by
  unfold Obligations.RiscEmulationIsRefused
  exact fun s w ha hw hr => step_of_stop ha (fetchInstr_remenable hw hr)

/-- Settles O8: the parameter decides between the refusal and the wider set's exception. -/
theorem unimplementedWordStops : Obligations.UnimplementedWordStops := by
  unfold Obligations.UnimplementedWordStops
  intro s w e ha hw hr ho hd
  have hstop := fetchInstr_unimplemented hw hr ho hd
  refine ⟨fun hnone => ?_, fun c hc => ?_⟩
  · rw [unimplementedStop, hnone] at hstop
    exact step_of_stop ha hstop
  · rw [unimplementedStop, hc] at hstop
    have takes := stepTakes_of_raise ha hstop
    exact ⟨takes.step_next, takes.2.2⟩

/-- Settles O13: the check comes before the word is decoded. -/
theorem overloadedInstructionTraps : Obligations.OverloadedInstructionTraps := by
  unfold Obligations.OverloadedInstructionTraps
  intro s w ha hw hr henable hbit
  have takes := stepTakes_of_raise ha (fetchInstr_overloaded hw hr (Bool.and_eq_true_iff.2 ⟨henable, hbit⟩))
  exact ⟨takes.step_next, takes.2.2⟩

/-- Settles O14: each cause makes the fetch's address fail with its exception, which the step then takes. -/
theorem unmappedFetchTraps : Obligations.UnmappedFetchTraps := by
  unfold Obligations.UnmappedFetchTraps
  intro s ha
  have takes : ∀ k, fetchAddr s = .error (.raise k) → StepTakes s k :=
    fun k h => stepTakes_of_raise ha (fetchInstr_of_fetchAddr_error h)
  refine ⟨fun haligned => ?_, fun c hc h => takes _ (fetchAddr_misaligned hc h), takes⟩
  have fails : busAccess s .fetch s.pc 4 = .error (.raise .fetch) → StepTakes s .fetch :=
    fun h => takes _ ((fetchAddr_aligned haligned).trans h)
  refine ⟨fun hmmu huncovered => ?_, fun n hmmu hn hdenied => ?_, fun pa ht hb => fails (busAccess_unanswered ht hb)⟩
  · have hnone : lowestMatch s .fetch s.pc = .ok none :=
      (lowestMatchIsTheLeast s .fetch s.pc).2 (fun n hn => slotMatches_eq_false fun h => (huncovered n hn h).2)
        (fun n hn h => (huncovered n hn h).1)
    exact fails (busAccess_of_translate_error (translate_unmatched hmmu hnone 4))
  · have hperm : permitted s s.mmuX[n] .fetch = false := by
      rcases hdenied with hinstr | hsystem
      · exact permitted_eq_false (.inr (.inr (.inr ⟨rfl, hinstr⟩)))
      · exact permitted_eq_false (.inl hsystem)
    exact fails (busAccess_of_translate_error (translate_not_permitted hmmu hn hperm 4))

end Sys2Proof.Machine
end

section
/-! PROOFS. What a whole step and an instruction change (10_state.md, 40_ctrl_access.md, 60_exceptions.md R168 to R185), each from what
a step, an instruction and a write that go on can do. -/

namespace Sys2Proof.Machine

/-! ## What a write changes -/

/-- Of the registers, only `reg` is another in `t` than in `s`. -/
structure OnlyChanges (reg : CtrlReg) (s t : State) : Prop where
  flags : t.flags ≠ s.flags → reg = .flags
  mirrorflags : t.mirrorflags ≠ s.mirrorflags → reg = .mirrorflags
  xaddr : t.xaddr ≠ s.xaddr → reg = .xaddr
  mirrorxaddr : t.mirrorxaddr ≠ s.mirrorxaddr → reg = .mirrorxaddr
  timer0 : t.timer0 ≠ s.timer0 → reg = .timer0
  system0 : t.system0 ≠ s.system0 → reg = .system0
  system1 : t.system1 ≠ s.system1 → reg = .system1
  gpioaOut : t.gpioaOut ≠ s.gpioaOut → reg = .gpioaPins
  procOut : t.procOut ≠ s.procOut → reg = .processors
  outEvents : t.outEvents ≠ s.outEvents → reg = .gpioaPins ∨ reg = .processors
  mmuX : ∀ n : Fin 16, t.mmuX[n] ≠ s.mmuX[n] → reg = .mmuX n
  mmuY : ∀ n : Fin 16, t.mmuY[n] ≠ s.mmuY[n] → reg = .mmuY n
  overlord : ∀ n : Fin 8, t.overlord[n] ≠ s.overlord[n] → reg = .overlord n

/-- A state differs in nothing from itself. -/
theorem OnlyChanges.refl (reg : CtrlReg) (s : State) : OnlyChanges reg s s := by
  constructor <;> simp

/-- A bank in which one register was set differs there at most. -/
theorem eq_of_getElem_set_ne {α : Type} {n : Nat} {v : Vector α n} {x : α} {m k : Fin n} (h : (v.set m x)[k] ≠ v[k]) : m = k := by
  by_contra hne
  exact h (Vector.getElem_set_ne m.isLt k.isLt fun e => hne (Fin.ext e))

/-- A write changes only its own register. -/
theorem ctrlWrite_onlyChanges {reg : CtrlReg} {v : Word} {s t : State} (h : ctrlWrite reg v s = .ok t) : OnlyChanges reg s t := by
  have ht := ctrlWrite_ok h
  have same := OnlyChanges.refl reg s
  cases reg <;> simp only at ht
  case flags => obtain ⟨-, rfl⟩ := ht; exact { same with flags := fun _ => rfl }
  case mirrorflags => obtain ⟨-, rfl⟩ := ht; exact { same with mirrorflags := fun _ => rfl }
  case xaddr => subst ht; exact { same with xaddr := fun _ => rfl }
  case mirrorxaddr => subst ht; exact { same with mirrorxaddr := fun _ => rfl }
  case timer0 => obtain ⟨-, rfl⟩ := ht; exact { same with timer0 := fun _ => rfl }
  case system0 => subst ht; exact { same with system0 := fun _ => rfl }
  case system1 => subst ht; exact { same with system1 := fun _ => rfl }
  case gpioaPins => subst ht; exact { same with gpioaOut := fun _ => rfl, outEvents := fun _ => .inl rfl }
  case processors => subst ht; exact { same with procOut := fun _ => rfl, outEvents := fun _ => .inr rfl }
  case mmuX m => subst ht; exact { same with mmuX := fun _ hn => congrArg _ (eq_of_getElem_set_ne hn) }
  case mmuY m => subst ht; exact { same with mmuY := fun _ hn => congrArg _ (eq_of_getElem_set_ne hn) }
  case overlord m => subst ht; exact { same with overlord := fun _ hn => congrArg _ (eq_of_getElem_set_ne hn) }

/-! ## What an instruction changes -/

/-- The exceptions of an instruction's own checks are not the timer's, so entering them leaves TIMER0 alone. -/
theorem enterException_timer0_of_check {k : ExcKind} (h : k = .priv ∨ k = .regprot) (s : State) :
    (enterException k s).timer0 = s.timer0 := by
  rw [enterException_timer0_eq]
  exact if_neg (by rcases h with rfl | rfl <;> decide)

/-- No instruction changes memory, the parameters or what the environment presents. -/
theorem exec_frame {i : Instr} {s t : State} (h : exec i s = .next t) :
    t.mem = s.mem ∧ t.params = s.params ∧ t.inputs = s.inputs ∧ t.draws = s.draws := by
  rcases exec_next h with ⟨k, -, -, -, rfl⟩ | ⟨-, -, -, rfl⟩ | ⟨rd, cn, reg, -, -, -, rfl⟩ |
    ⟨rs, cn, reg, u, -, -, -, hu, rfl⟩
  · exact ⟨rfl, rfl, rfl, rfl⟩
  · exact ⟨rfl, rfl, rfl, rfl⟩
  · exact ⟨rfl, rfl, rfl, rfl⟩
  · obtain ⟨hparams, -, -, -, hmem, hinputs, hdraws⟩ := ctrlWrite_frame hu
    exact ⟨hmem, hparams, hinputs, hdraws⟩

/-- Settles O58: an entry changes `EXCN`, `MIRRORXADDR` and the flags pair, a return the flags pair, a read its destination, and a
write its own register. -/
theorem registersChangeOnlyByTheirAccess : Obligations.RegistersChangeOnlyByTheirAccess := by
  unfold Obligations.RegistersChangeOnlyByTheirAccess
  intro i s t h
  have frame := exec_frame h
  rcases exec_next h with ⟨k, hk, -, -, rfl⟩ | ⟨hnone, -, -, rfl⟩ | ⟨rd, cn, reg, ha, -, -, rfl⟩ |
    ⟨rs, cn, reg, u, ha, -, hreg, hu, rfl⟩
  case inl =>
    have entered : ∃ k', enterException k s = enterException k' s := ⟨k, rfl⟩
    have htimer := enterException_timer0_of_check hk s
    exact ⟨rfl, fun _ => absurd rfl, fun _ => entered, fun _ => .inl entered, fun _ => .inl entered, fun _ => .inl entered,
      absurd htimer, absurd rfl, absurd rfl, absurd rfl, absurd rfl, absurd rfl, absurd rfl,
      fun _ => absurd rfl, fun _ => absurd rfl, fun _ => absurd rfl, frame⟩
  case inr.inl =>
    have hi := accessOf_none hnone
    exact ⟨rfl, fun _ => absurd rfl, absurd rfl, fun _ => .inr (.inl hi), fun _ => .inr (.inl hi), absurd rfl,
      absurd rfl, absurd rfl, absurd rfl, absurd rfl, absurd rfl, absurd rfl, absurd rfl,
      fun _ => absurd rfl, fun _ => absurd rfl, fun _ => absurd rfl, frame⟩
  case inr.inr.inl =>
    have destination : ∀ r, (s.regs.set rd (ctrlRead reg s))[r]? ≠ s.regs[r]? → ∃ cn, accessOf i = some (r, cn, .read) := by
      intro r hr
      obtain rfl : rd = r := by
        by_contra hne
        exact hr (List.getElem?_set_ne hne)
      exact ⟨cn, ha⟩
    exact ⟨List.length_set, destination, absurd rfl, absurd rfl, absurd rfl, absurd rfl,
      absurd rfl, absurd rfl, absurd rfl, absurd rfl, absurd rfl, absurd rfl, absurd rfl,
      fun _ => absurd rfl, fun _ => absurd rfl, fun _ => absurd rfl, frame⟩
  case inr.inr.inr =>
    have only := ctrlWrite_onlyChanges hu
    obtain ⟨-, hregs, -, hexcn, -⟩ := ctrlWrite_frame hu
    have names : ∀ {reg'}, reg = reg' → accessOf i = some (rs, ctrlRegNumber reg', .write) := by
      rintro _ rfl
      rw [ha, ctrlRegOf_number hreg]
    exact ⟨congrArg List.length hregs, fun r => absurd (congrArg (·[r]?) hregs), absurd hexcn,
      fun h => .inr (.inr ⟨rs, names (only.flags h)⟩), fun h => .inr (.inr ⟨rs, names (only.mirrorflags h)⟩),
      fun h => .inr ⟨rs, names (only.mirrorxaddr h)⟩, fun h => ⟨rs, names (only.timer0 h)⟩,
      fun h => ⟨rs, names (only.xaddr h)⟩, fun h => ⟨rs, names (only.system0 h)⟩, fun h => ⟨rs, names (only.system1 h)⟩,
      fun h => ⟨rs, names (only.gpioaOut h)⟩, fun h => ⟨rs, names (only.procOut h)⟩,
      fun h => (only.outEvents h).elim (fun e => ⟨rs, _, names e, .inl rfl⟩) (fun e => ⟨rs, _, names e, .inr rfl⟩),
      fun n h => ⟨rs, names (only.mmuX n h)⟩, fun n h => ⟨rs, names (only.mmuY n h)⟩,
      fun n h => ⟨rs, names (only.overlord n h)⟩, frame⟩

/-! ## What a step changes -/

/-- Settles O59: neither an entry nor an instruction writes memory or a parameter, nor do the tick and the sample. -/
theorem stepsLeaveMemoryAndParameters : Obligations.StepsLeaveMemoryAndParameters := by
  unfold Obligations.StepsLeaveMemoryAndParameters
  intro s t h
  have frame : t.mem = s.mem ∧ t.params = s.params := by
    obtain ⟨u, rfl, ⟨k, -, -, rfl⟩ | ⟨k, -, -, -, -, rfl⟩ | ⟨i, -, -, hi⟩⟩ := step_next h
    · exact ⟨rfl, rfl⟩
    · exact ⟨rfl, rfl⟩
    · obtain ⟨hmem, hparams, -, -⟩ := exec_frame hi
      exact ⟨hmem, hparams⟩
  obtain ⟨hmem, hparams⟩ := frame
  exact ⟨fun a => by rw [hmem], hmem, hparams⟩

/-- Settles O57: an entry or a return exchanges the pair, a read leaves it, and a write changes `FLAGS` only where it names it. -/
theorem flagsChangeOnlyByExchangeOrWrite : Obligations.FlagsChangeOnlyByExchangeOrWrite := by
  unfold Obligations.FlagsChangeOnlyByExchangeOrWrite
  intro s t h
  obtain ⟨u, rfl, ⟨k, -, -, rfl⟩ | ⟨k, -, -, -, -, rfl⟩ | ⟨i, -, hfetch, hi⟩⟩ := step_next h
  · exact .inr (.inl ⟨rfl, rfl, .inl ⟨rfl, rfl⟩⟩)
  · exact .inr (.inl ⟨rfl, rfl, .inl ⟨rfl, rfl⟩⟩)
  rcases exec_next hi with ⟨k, -, -, -, rfl⟩ | ⟨hnone, -, -, rfl⟩ | ⟨rd, cn, reg, -, -, -, rfl⟩ |
    ⟨rs, cn, reg, u, ha, -, hreg, hu, rfl⟩
  · exact .inr (.inl ⟨rfl, rfl, .inl ⟨rfl, rfl⟩⟩)
  · obtain rfl := accessOf_none hnone
    exact .inr (.inl ⟨rfl, rfl, .inr ⟨hfetch, rfl⟩⟩)
  · exact .inl rfl
  · by_cases hsame : u.flags = s.flags
    · exact .inl hsame
    · obtain rfl := (ctrlWrite_onlyChanges hu).flags hsame
      obtain ⟨-, rfl⟩ := ctrlWrite_ok hu
      obtain rfl := ctrlRegOf_number hreg
      exact .inr (.inr ⟨i, rs, hfetch, ha, rfl⟩)

/-! ## Which exceptions a fetch raises -/

/-- A search stops only at a misaligned slot (20_memory.md R61; log 13). -/
theorem lowestMatchIn_error {s : State} {k : AccessKind} {va : Word} {e : Stop} :
    ∀ {slots : List (Fin 16)}, lowestMatchIn s k va slots = .error e → ∃ n, e = .refuse (.misalignedSlot n) := by
  intro slots
  induction slots with
  | nil => intro h; cases h
  | cons n rest ih =>
    intro h
    unfold lowestMatchIn at h
    split at h
    · split at h
      · split at h
        · cases h
        · exact ih h
      · cases h; exact ⟨n, rfl⟩
    · exact ih h

/-- A translation raises only the exception of its kind of access (20_memory.md R64). -/
theorem translate_raise {s : State} {k : AccessKind} {va : Word} {size : Nat} {x : ExcKind}
    (h : translate s k va size = .error (.raise x)) : x = k.failure := by
  unfold translate at h
  split at h
  case isFalse => cases h
  split at h
  case h_2 => cases h
  case h_1 e hslot =>
    cases h
    unfold accessSlot at hslot
    split at hslot
    · next e' hm =>
      obtain ⟨n, rfl⟩ := lowestMatchIn_error hm
      cases hslot
    · cases hslot; rfl
    · split at hslot
      · split at hslot <;> cases hslot
      · cases hslot; rfl

/-- A fetch's address raises the fetch exception, or the wider set's for a misaligned `pc` (60_exceptions.md R153; log 8). -/
theorem fetchAddr_raise {s : State} {x : ExcKind} (h : fetchAddr s = .error (.raise x)) : x = .fetch ∨ ∃ c, x = .other c := by
  have bus : busAccess s .fetch s.pc 4 = .error (.raise x) → x = .fetch := by
    intro hb
    unfold busAccess at hb
    split at hb
    · next ht => cases hb; exact translate_raise ht
    · split at hb <;> cases hb
      rfl
  unfold fetchAddr at h
  split at h
  · exact .inl (bus h)
  · next c _ =>
    split at h
    · exact .inl (bus h)
    · cases h; exact .inr ⟨c, rfl⟩

/-- A fetched instruction's checks raise no timer exception: that one is asynchronous only (60_exceptions.md R161). -/
theorem fetchInstr_raise_ne_timer {s : State} {x : ExcKind} (h : fetchInstr s = .error (.raise x)) : x ≠ .timer := by
  unfold fetchInstr fetchWord at h
  cases haddr : fetchAddr s with
  | error e =>
    simp only [haddr] at h
    cases h
    rcases fetchAddr_raise haddr with rfl | ⟨c, rfl⟩ <;> exact fun e => nomatch e
  | ok pa =>
    cases hword : wordAt s pa with
    | error f => simp only [haddr, hword] at h; cases h
    | ok w =>
      simp only [haddr, hword] at h
      split at h
      · cases h
      split at h
      · cases h; exact fun e => nomatch e
      split at h
      · cases h
      · next e _ =>
        unfold unimplementedStop at h
        split at h <;> cases h
        exact fun e => nomatch e

/-! ## Dingdong -/

/-- An entry leaves dingdong as it is, but for the timer's (60_exceptions.md R184). -/
theorem dingdongAfterEntry_of_ne {k : ExcKind} (h : k ≠ .timer) (d : Bool) : dingdongAfterEntry k d = d := by
  cases k
  case timer => exact absurd rfl h
  all_goals rfl

/-- No instruction raises dingdong, and only a write of `CTRL_TIMER0` with `Clear` or `Sleep` lowers it (60_exceptions.md R185). -/
theorem exec_dingdong {i : Instr} {s t : State} (h : exec i s = .next t) :
    t.timer0.dingdong = s.timer0.dingdong ∨
    (t.timer0.dingdong = false ∧ ∃ rs, accessOf i = some (rs, 6, .write) ∧
      ((readReg s rs).getLsbD 0 = true ∨ (readReg s rs).getLsbD 3 = true)) := by
  rcases exec_next h with ⟨k, hk, -, -, rfl⟩ | ⟨-, -, -, rfl⟩ | ⟨rd, cn, reg, -, -, -, rfl⟩ |
    ⟨rs, cn, reg, u, ha, -, hreg, hu, rfl⟩
  · exact .inl (congrArg _ (enterException_timer0_of_check hk s))
  · exact .inl rfl
  · exact .inl rfl
  · by_cases hsame : u.timer0 = s.timer0
    · exact .inl (congrArg _ hsame)
    · obtain rfl := (ctrlWrite_onlyChanges hu).timer0 hsame
      obtain ⟨-, rfl⟩ := ctrlWrite_ok hu
      obtain rfl := ctrlRegOf_number hreg
      have hd := timer0Write_dingdong (readReg s rs) s.timer0
      by_cases hbits : ((readReg s rs).getLsbD 0 || (readReg s rs).getLsbD 3) = true
      · exact .inr ⟨hd.trans (if_pos hbits), rs, ha, Bool.or_eq_true_iff.1 hbits⟩
      · exact .inl (hd.trans (if_neg hbits))

/-- Settles O43: the tick raises dingdong by the alarm only; of what follows it, only the timer's entry and such a write change it. -/
theorem dingdongRisesAndFalls : Obligations.DingdongRisesAndFalls := by
  unfold Obligations.DingdongRisesAndFalls
  intro s t h
  have cause : t.timer0.dingdong = (timerTick s).timer0.dingdong ∨
      (t.timer0.dingdong = false ∧ (asyncRequest (alarmNow s) (timerTick s) = some .timer ∨
        ∃ i rs, fetchInstr (timerTick s) = .ok i ∧ accessOf i = some (rs, 6, .write) ∧
          ((readReg s rs).getLsbD 0 = true ∨ (readReg s rs).getLsbD 3 = true))) := by
    obtain ⟨u, rfl, ⟨k, hk, -, rfl⟩ | ⟨k, -, hraise, -, -, rfl⟩ | ⟨i, -, hfetch, hi⟩⟩ := step_next h
    · by_cases htimer : k = .timer
      · subst htimer
        exact .inr ⟨rfl, .inl hk⟩
      · exact .inl (dingdongAfterEntry_of_ne htimer _)
    · exact .inl (dingdongAfterEntry_of_ne (fetchInstr_raise_ne_timer hraise) _)
    · rcases exec_dingdong hi with hsame | ⟨hlow, rs, ha, hbits⟩
      · exact .inl hsame
      · exact .inr ⟨hlow, .inr ⟨i, rs, hfetch, ha, hbits⟩⟩
  rw [timerTick_timer0] at cause
  rcases cause with hsame | ⟨hlow, hcause⟩
  · exact ⟨fun hd hr => by simpa [hd, hr] using hsame.symm, fun hd hf => by simp [hd, hf] at hsame⟩
  · exact ⟨fun _ hr => absurd (hlow.symm.trans hr) Bool.false_ne_true, fun _ _ => hcause⟩

/-! ## User mode -/

/-- In user mode, with no register open to it, a step that goes on has entered an exception, the timer's only by its request. -/
theorem step_user {s t : State} (h : step s = .next t) (hs : flagSysmode s.flags = false) (hsafe : NoUserAccess s) :
    ∃ k, t = sampleInputs (enterException k (timerTick s)) ∧
      (k = .timer → asyncRequest (alarmNow s) (timerTick s) = some .timer) := by
  obtain ⟨u, rfl, ⟨k, hk, -, rfl⟩ | ⟨k, -, hraise, -, -, rfl⟩ | ⟨i, -, -, hi⟩⟩ := step_next h
  · exact ⟨k, rfl, fun e => e ▸ hk⟩
  · exact ⟨k, rfl, fun e => absurd e (fetchInstr_raise_ne_timer hraise)⟩
  · have denied : exec i (timerTick s) = raiseException .priv (timerTick s) :=
      exec_user hs fun r cn dir _ => by rw [timerTick_params, hsafe]; exact List.not_mem_nil
    obtain ⟨-, -, rfl⟩ := raiseException_next (denied.symm.trans hi)
    exact ⟨.priv, rfl, fun e => nomatch e⟩

/-- Settles O56: the step is the tick, the entry of an exception and the sample. -/
theorem userModeStepsEnterExceptions : Obligations.UserModeStepsEnterExceptions := by
  unfold Obligations.UserModeStepsEnterExceptions
  intro s t h hs hsafe
  obtain ⟨k, rfl, htimer⟩ := step_user h hs hsafe
  refine ⟨⟨k, rfl⟩, rfl, rfl, rfl, rfl, rfl, rfl, rfl, rfl, rfl, rfl, rfl, rfl, rfl, rfl, rfl, rfl, rfl, rfl, rfl, rfl, rfl, ?_⟩
  by_cases hk : k = .timer
  · subst hk
    exact .inr ⟨htimer rfl, rfl⟩
  · exact .inl (dingdongAfterEntry_of_ne hk _)

end Sys2Proof.Machine
end

section
/-! PROOFS. `FLAGS.critical` is an output (60_exceptions.md R195): nothing the core does reads it, so flipping it changes nothing but the
bit itself, wherever the flags pair has it. -/

namespace Sys2Proof.Machine

/-! ## The other bits of `FLAGS` -/

/-- Only bit 5 is flipped. -/
theorem getLsbD_flip {i : Nat} (h : i ≠ 5) (f : Word) : (f ^^^ 0x20#64).getLsbD i = f.getLsbD i := by
  have hbit : (0x20#64).getLsbD i = false := by
    by_cases hi : i < 64
    · have all : ∀ j : Fin 64, j.val ≠ 5 → (0x20#64).getLsbD j.val = false := by decide
      exact all ⟨i, hi⟩ h
    · exact BitVec.getLsbD_of_ge _ _ (Nat.not_lt.1 hi)
  rw [BitVec.getLsbD_xor, hbit, Bool.xor_false]

section

variable (s : State)

@[simp] theorem flipCritical_sysmode : flagSysmode (flipCritical s).flags = flagSysmode s.flags := getLsbD_flip (by decide) _
@[simp] theorem flipCritical_excnenable : flagExcnenable (flipCritical s).flags = flagExcnenable s.flags :=
  getLsbD_flip (by decide) _
@[simp] theorem flipCritical_tmxenable : flagTmxenable (flipCritical s).flags = flagTmxenable s.flags :=
  getLsbD_flip (by decide) _
@[simp] theorem flipCritical_hwxenable : flagHwxenable (flipCritical s).flags = flagHwxenable s.flags :=
  getLsbD_flip (by decide) _
@[simp] theorem flipCritical_cpxenable : flagCpxenable (flipCritical s).flags = flagCpxenable s.flags :=
  getLsbD_flip (by decide) _
@[simp] theorem flipCritical_mmuenable : flagMmuenable (flipCritical s).flags = flagMmuenable s.flags :=
  getLsbD_flip (by decide) _
@[simp] theorem flipCritical_overlordenable : flagOverlordenable (flipCritical s).flags = flagOverlordenable s.flags :=
  getLsbD_flip (by decide) _
@[simp] theorem flipCritical_instrendswap : flagInstrendswap (flipCritical s).flags = flagInstrendswap s.flags :=
  getLsbD_flip (by decide) _
@[simp] theorem flipCritical_remenable : flagRemenable (flipCritical s).flags = flagRemenable s.flags :=
  getLsbD_flip (by decide) _

@[simp] theorem flipCritical_regprot : flagRegprot (flipCritical s).flags = flagRegprot s.flags := by
  refine congrArg BitVec.toNat (BitVec.eq_of_getLsbD_eq fun i hi => ?_)
  have hbit : (flipCritical s).flags.getLsbD (8 + i) = s.flags.getLsbD (8 + i) := getLsbD_flip (by omega) _
  rw [BitVec.getLsbD_extractLsb', BitVec.getLsbD_extractLsb', hbit]

/-! ## The parts of a step -/

theorem timerTick_flipCritical : timerTick (flipCritical s) = flipCritical (timerTick s) := rfl

theorem permitted_flipCritical (x : Word) (k : AccessKind) : permitted (flipCritical s) x k = permitted s x k := by
  unfold permitted
  rw [flipCritical_sysmode]

theorem lowestMatch_flipCritical (k : AccessKind) (va : Word) : lowestMatch (flipCritical s) k va = lowestMatch s k va := by
  have search : ∀ slots, lowestMatchIn (flipCritical s) k va slots = lowestMatchIn s k va slots := by
    intro slots
    induction slots with
    | nil => rfl
    | cons n rest ih => rw [lowestMatchIn, ih]; rfl
  exact search _

theorem translate_flipCritical (k : AccessKind) (va : Word) (size : Nat) :
    translate (flipCritical s) k va size = translate s k va size := by
  have slot : accessSlot (flipCritical s) k va size = accessSlot s k va size := by
    rw [accessSlot, lowestMatch_flipCritical, accessSlot]
    simp only [permitted_flipCritical]
    rfl
  rw [translate, flipCritical_mmuenable, slot]
  rfl

theorem busAccess_flipCritical (k : AccessKind) (va : Word) (size : Nat) :
    busAccess (flipCritical s) k va size = busAccess s k va size := by
  rw [busAccess, translate_flipCritical]
  rfl

theorem dataAccess_flipCritical (k : AccessKind) (va : Word) (size : Nat) :
    dataAccess (flipCritical s) k va size = dataAccess s k va size := by
  rw [dataAccess, busAccess_flipCritical]
  rfl

theorem memReadBytes_flipCritical (pa : Word) :
    ∀ n k, memReadBytes (flipCritical s) pa k n = memReadBytes s pa k n
  | 0, _ => rfl
  | n + 1, k => by rw [memReadBytes, memReadBytes_flipCritical pa n (k + 1)]; rfl

theorem loadData_flipCritical (va : Word) (n : Nat) : loadData (flipCritical s) va n = loadData s va n := by
  rw [loadData, dataAccess_flipCritical]
  simp only [memReadBytes_flipCritical]
  rfl

/-- A store writes the same bytes to the same place. -/
theorem storeData_flipCritical {va v : Word} {n : Nat} {u : State} (h : storeData s va n v = .ok u) :
    storeData (flipCritical s) va n v = .ok (flipCritical u) := by
  rw [storeData] at h ⊢
  rw [dataAccess_flipCritical]
  cases ha : dataAccess s .write va n with
  | error e => rw [ha] at h; cases h
  | ok pa => rw [ha] at h; cases h; rfl

theorem asyncRequest_flipCritical (alarm : Bool) : asyncRequest alarm (flipCritical s) = asyncRequest alarm s := by
  simp only [asyncRequest, flipCritical_excnenable, flipCritical_tmxenable, flipCritical_hwxenable, flipCritical_cpxenable]
  rfl

theorem fetchWord_flipCritical : fetchWord (flipCritical s) = fetchWord s := by
  have addr : fetchAddr (flipCritical s) = fetchAddr s := by
    simp only [fetchAddr, busAccess_flipCritical]
    rfl
  have word : ∀ pa, wordAt (flipCritical s) pa = wordAt s pa := by
    intro pa
    simp only [wordAt, seenWord, flipCritical_instrendswap]
    rfl
  simp only [fetchWord, addr, word]

theorem fetchInstr_flipCritical : fetchInstr (flipCritical s) = fetchInstr s := by
  simp only [fetchInstr, fetchWord_flipCritical, flipCritical_remenable, overloaded, flipCritical_overlordenable]
  rfl

theorem preChecks_flipCritical (r cn : Nat) (dir : Dir) : preChecks r cn dir (flipCritical s) = preChecks r cn dir s := by
  simp only [preChecks, ctrlAllowed, regAccessible, flipCritical_sysmode, flipCritical_regprot]
  rfl

end

/-! ## Outcomes -/

namespace SameButCritical

/-- The bit differs in `FLAGS`. -/
theorem flags (u : State) : SameButCritical (.next u) (.next (flipCritical u)) :=
  ⟨_, _, .inr rfl, .inl rfl, rfl⟩

/-- The bit differs in `MIRRORFLAGS`. -/
theorem mirrorflags (u : State) : SameButCritical (.next u) (.next { u with mirrorflags := u.mirrorflags ^^^ 0x20 }) :=
  ⟨_, _, .inl rfl, .inr rfl, rfl⟩

theorem refl (o : Host.Outcome State Fault Refusal) : SameButCritical o o := by
  cases o with
  | next u => exact ⟨_, _, .inl rfl, .inl rfl, rfl⟩
  | fault e => rfl
  | refused r => rfl

/-- The environment's next sample is the same. -/
theorem thenSample {o q : Host.Outcome State Fault Refusal} (h : SameButCritical o q) :
    SameButCritical (thenSample o) (thenSample q) := by
  cases o with
  | next u =>
    obtain ⟨f, m, hf, hm, rfl⟩ := h
    exact ⟨f, m, hf, hm, rfl⟩
  | fault e => obtain rfl := h; rfl
  | refused r => obtain rfl := h; rfl

variable (s : State)

/-- An entry puts the flipped flags into `MIRRORFLAGS`. -/
theorem raiseException (k : ExcKind) : SameButCritical (raiseException k s) (raiseException k (flipCritical s)) := by
  simp only [Machine.raiseException, flipCritical_excnenable]
  split
  · by_cases hr : entryReady s = true
    · rw [if_pos hr, if_pos (show entryReady (flipCritical s) = true from hr)]
      exact mirrorflags (enterException k s)
    · rw [if_neg hr, if_neg (show ¬ entryReady (flipCritical s) = true from hr)]
      rfl
  · rfl

theorem stopOutcome (e : Stop) : SameButCritical (stopOutcome e s) (stopOutcome e (flipCritical s)) := by
  cases e with
  | raise k => exact raiseException s k
  | fault f => rfl
  | refuse r => rfl

/-- So does a return. -/
theorem execModeswitch : SameButCritical (execModeswitch s) (execModeswitch (flipCritical s)) := by
  simp only [Machine.execModeswitch, flipCritical_sysmode]
  split
  · by_cases hr : returnReady s = true
    · rw [if_pos hr, if_pos (show returnReady (flipCritical s) = true from hr)]
      exact mirrorflags (returnFromException s)
    · rw [if_neg hr, if_neg (show ¬ returnReady (flipCritical s) = true from hr)]
      rfl
  · exact raiseException s .priv

/-- Only `CTRL_FLAGS` reads the bit. -/
theorem ctrlRead_flipCritical {reg : CtrlReg} (h : reg ≠ .flags) : ctrlRead reg (flipCritical s) = ctrlRead reg s := by
  cases reg
  case flags => exact absurd rfl h
  all_goals rfl

theorem readCtrl {rd cn : Nat} (h : cn ≠ 2) : SameButCritical (readCtrl rd cn s) (readCtrl rd cn (flipCritical s)) := by
  rw [Machine.readCtrl, Machine.readCtrl, preChecks_flipCritical]
  split
  · exact stopOutcome s _
  · next reg hreg =>
    obtain ⟨-, -, hnum⟩ := preChecks_ok_iff.1 hreg
    have hne : reg ≠ .flags := by
      rintro rfl
      exact h (ctrlRegOf_number hnum)
    rw [ctrlRead_flipCritical s hne]
    exact flags (afterRead s rd (ctrlRead reg s))

/-- A write replaces the bit where it writes `FLAGS`, and leaves it where it does not. -/
theorem ctrlWrite_flipCritical (reg : CtrlReg) (v : Word) :
    ctrlWrite reg v (flipCritical s) =
      (ctrlWrite reg v s).map fun u => if reg = .flags then u else flipCritical u := by
  cases reg
  case flags | mirrorflags | timer0 => simp only [ctrlWrite]; split <;> rfl
  all_goals rfl

theorem writeCtrl (cn rs : Nat) : SameButCritical (writeCtrl cn rs s) (writeCtrl cn rs (flipCritical s)) := by
  rw [Machine.writeCtrl, Machine.writeCtrl, preChecks_flipCritical]
  split
  · exact stopOutcome s _
  · next reg _ =>
    have value : readReg (flipCritical s) rs = readReg s rs := rfl
    rw [value, ctrlWrite_flipCritical]
    cases ctrlWrite reg (readReg s rs) s with
    | error r => rfl
    | ok u =>
      simp only [Except.map]
      split
      · exact refl _
      · exact flags (advancePc u)

/-- What every instruction but a read of `CTRL_FLAGS` does stays the same. -/
theorem exec {i : Instr} (h : ∀ rd, accessOf i ≠ some (rd, 2, .read)) : SameButCritical (exec i s) (exec i (flipCritical s)) := by
  rw [exec_eq_access, exec_eq_access]
  split
  · exact execModeswitch s
  · next r cn ha =>
    refine readCtrl s ?_
    rintro rfl
    exact h r ha
  · next r cn _ => exact writeCtrl s cn r

/-- So does a whole step. -/
theorem step (h : ∀ i rd, fetchInstr (timerTick s) = .ok i → accessOf i ≠ some (rd, 2, .read)) :
    SameButCritical (step s) (step (flipCritical s)) := by
  have alarm : alarmNow (flipCritical s) = alarmNow s := rfl
  simp only [Machine.step, coreCycle, alarm, timerTick_flipCritical, stepTicked, asyncRequest_flipCritical, fetchInstr_flipCritical]
  apply thenSample
  split
  · exact raiseException (timerTick s) _
  · split
    · exact stopOutcome (timerTick s) _
    · next i hi => exact exec (timerTick s) fun rd => h i rd hi

end SameButCritical

/-- Settles O60: no part of a step reads the bit, so each has the same outcome but for the bit itself. -/
theorem criticalHasNoEffectInTheCore : Obligations.CriticalHasNoEffectInTheCore := by
  unfold Obligations.CriticalHasNoEffectInTheCore
  exact fun s => ⟨translate_flipCritical s, loadData_flipCritical s, fun va n v u h => ⟨_, storeData_flipCritical s h, rfl⟩,
    fun alarm => asyncRequest_flipCritical s alarm, fetchInstr_flipCritical s, rfl, preChecks_flipCritical s,
    fun i h => SameButCritical.exec s h, fun h => SameButCritical.step s h⟩

end Sys2Proof.Machine
end
